-- ==== Sys2Proof/Word.lean ====
section
/-! DEFINITION. The value types of the dxmzx/mic1 CORE (00_scope.md R5, R7, R8). -/

namespace Sys2Proof

/-- A data register, bus or latch value: 32 bits, unsigned (R5, R8). -/
abbrev Word := BitVec 32

/-- One cell of main memory, and MBR: 8 bits (R5). -/
abbrev Byte := BitVec 8

/-- A microinstruction: one control-store word, 36 bits (R5, R90). -/
abbrev MicroWord := BitVec 36

/-- A control-store index, and MPC: 9 bits, so that every value is a valid index (R5, R31, R43a). -/
abbrev MicroAddr := BitVec 9

end Sys2Proof
end

