-- ==== Sys2Proof/Config.lean ====
section
/-! DEFINITION. What one build of the CORE fixes: the parameters of 00_scope.md R5 at the values the source gives
(decision D17, log 15), and what the two memories read as where nothing is listed (logs 3 and 4). -/

namespace Sys2Proof.Config

/-- `MEM_BYTES`, the capacity of main memory in bytes (R5, R63). -/
def memBytes : Nat := 100000000

/-- `CS_ENTRIES`, the number of control-store words: 2^9, the range of MPC (R5, R61). -/
def csEntries : Nat := 512

/-- `ROM_RECORD_BYTES`, the bytes of one control-store record of the ROM image (R5, R103). -/
def romRecordBytes : Nat := 8

/-- `HDR_BYTES`, the bytes of the program image that go to addresses 0 to 19 (R5, R306). -/
def hdrBytes : Nat := 20

/-- `PROG_BASE`, the byte address of the rest of the program image (R5, R306). -/
def progBase : Nat := 0x0401

/-- What a byte of main memory that nothing lists reads as: the default of R307.
UNVERIFIED (the spec's own decision D12), unsafe: log 4. -/
def memFill : Byte := 0x00#8

/-- What a control-store word that nothing lists reads as. DESIGN CHOICE, unsafe: log 3. -/
def csFill : MicroWord := 0x000000000#36

end Sys2Proof.Config
end

