-- ==== Sys2Proof/Syntax.lean ====
section
/-! DEFINITION. The rows of the opcode table, one constructor each, and the seven-field microinstruction that selects
them (30_encoding.md R90 to R100, R110). A row is what the hardware selects independently; one microinstruction
applies a list of rows in one cycle (DESIGN CHOICE, safe: log 1). The names follow the table's mnemonics (R113). -/

namespace Sys2Proof

/-- One row of spec/opcode_table.json: one value of field B, OP or Shift, one enabled bit of Mem, C or Jump, or
field NextMPC with its operand. -/
inductive Instr where
  -- field B: the B-bus source (R94)
  /-- `B_MDR` (R131). -/
  | bMdr
  /-- `B_PC` (R132). -/
  | bPc
  /-- `B_MBR_S` (R133). -/
  | bMbrS
  /-- `B_MBR_U` (R134). -/
  | bMbrU
  /-- `B_SP` (R135). -/
  | bSp
  /-- `B_LV` (R136). -/
  | bLv
  /-- `B_CPP` (R137). -/
  | bCpp
  /-- `B_TOS` (R138). -/
  | bTos
  /-- `B_OPC` (R139). -/
  | bOpc
  /-- `B_ONES_9` (R140). -/
  | bOnes9
  /-- `B_ONES_10` (R140). -/
  | bOnes10
  /-- `B_ONES_11` (R140). -/
  | bOnes11
  /-- `B_ONES_12` (R140). -/
  | bOnes12
  /-- `B_ONES_13` (R140). -/
  | bOnes13
  /-- `B_ONES_14` (R140). -/
  | bOnes14
  /-- `B_ONES_15` (R140). -/
  | bOnes15
  -- field Mem: one enabled memory operation (R95)
  /-- `MEM_FETCH` (R211). -/
  | memFetch
  /-- `MEM_READ` (R212). -/
  | memRead
  /-- `MEM_WRITE` (R213). -/
  | memWrite
  -- field C: one enabled destination (R96)
  /-- `C_MAR` (R191). -/
  | cMar
  /-- `C_MDR` (R192). -/
  | cMdr
  /-- `C_PC` (R193). -/
  | cPc
  /-- `C_SP` (R194). -/
  | cSp
  /-- `C_LV` (R195). -/
  | cLv
  /-- `C_CPP` (R196). -/
  | cCpp
  /-- `C_TOS` (R197). -/
  | cTos
  /-- `C_OPC` (R198). -/
  | cOpc
  /-- `C_H` (R199). -/
  | cH
  -- field OP: the ALU operation (R97)
  /-- `ALU_UNDEF_0` (R166). -/
  | aluUndef0
  /-- `ALU_UNDEF_1` (R166). -/
  | aluUndef1
  /-- `ALU_UNDEF_2` (R166). -/
  | aluUndef2
  /-- `ALU_UNDEF_3` (R166). -/
  | aluUndef3
  /-- `ALU_UNDEF_4` (R166). -/
  | aluUndef4
  /-- `ALU_UNDEF_5` (R166). -/
  | aluUndef5
  /-- `ALU_UNDEF_6` (R166). -/
  | aluUndef6
  /-- `ALU_UNDEF_7` (R166). -/
  | aluUndef7
  /-- `ALU_UNDEF_8` (R166). -/
  | aluUndef8
  /-- `ALU_UNDEF_9` (R166). -/
  | aluUndef9
  /-- `ALU_UNDEF_10` (R166). -/
  | aluUndef10
  /-- `ALU_UNDEF_11` (R166). -/
  | aluUndef11
  /-- `ALU_AND` (R151). -/
  | aluAnd
  /-- `ALU_UNDEF_13` (R166). -/
  | aluUndef13
  /-- `ALU_UNDEF_14` (R166). -/
  | aluUndef14
  /-- `ALU_UNDEF_15` (R166). -/
  | aluUndef15
  /-- `ALU_UNDEF_16` (R166). -/
  | aluUndef16
  /-- `ALU_ONE` (R152). -/
  | aluOne
  /-- `ALU_MINUS_ONE` (R153). -/
  | aluMinusOne
  /-- `ALU_UNDEF_19` (R166). -/
  | aluUndef19
  /-- `ALU_B` (R154). -/
  | aluB
  /-- `ALU_UNDEF_21` (R166). -/
  | aluUndef21
  /-- `ALU_UNDEF_22` (R166). -/
  | aluUndef22
  /-- `ALU_UNDEF_23` (R166). -/
  | aluUndef23
  /-- `ALU_H` (R155). -/
  | aluH
  /-- `ALU_UNDEF_25` (R166). -/
  | aluUndef25
  /-- `ALU_NOT_H` (R156). -/
  | aluNotH
  /-- `ALU_UNDEF_27` (R166). -/
  | aluUndef27
  /-- `ALU_OR` (R157). -/
  | aluOr
  /-- `ALU_UNDEF_29` (R166). -/
  | aluUndef29
  /-- `ALU_UNDEF_30` (R166). -/
  | aluUndef30
  /-- `ALU_UNDEF_31` (R166). -/
  | aluUndef31
  /-- `ALU_UNDEF_32` (R166). -/
  | aluUndef32
  /-- `ALU_UNDEF_33` (R166). -/
  | aluUndef33
  /-- `ALU_UNDEF_34` (R166). -/
  | aluUndef34
  /-- `ALU_UNDEF_35` (R166). -/
  | aluUndef35
  /-- `ALU_UNDEF_36` (R166). -/
  | aluUndef36
  /-- `ALU_UNDEF_37` (R166). -/
  | aluUndef37
  /-- `ALU_UNDEF_38` (R166). -/
  | aluUndef38
  /-- `ALU_UNDEF_39` (R166). -/
  | aluUndef39
  /-- `ALU_UNDEF_40` (R166). -/
  | aluUndef40
  /-- `ALU_UNDEF_41` (R166). -/
  | aluUndef41
  /-- `ALU_UNDEF_42` (R166). -/
  | aluUndef42
  /-- `ALU_UNDEF_43` (R166). -/
  | aluUndef43
  /-- `ALU_NOT_B` (R158). -/
  | aluNotB
  /-- `ALU_UNDEF_45` (R166). -/
  | aluUndef45
  /-- `ALU_UNDEF_46` (R166). -/
  | aluUndef46
  /-- `ALU_UNDEF_47` (R166). -/
  | aluUndef47
  /-- `ALU_UNDEF_48` (R166). -/
  | aluUndef48
  /-- `ALU_UNDEF_49` (R166). -/
  | aluUndef49
  /-- `ALU_UNDEF_50` (R166). -/
  | aluUndef50
  /-- `ALU_UNDEF_51` (R166). -/
  | aluUndef51
  /-- `ALU_UNDEF_52` (R166). -/
  | aluUndef52
  /-- `ALU_B_INC` (R159). -/
  | aluBInc
  /-- `ALU_B_DEC` (R160). -/
  | aluBDec
  /-- `ALU_UNDEF_55` (R166). -/
  | aluUndef55
  /-- `ALU_UNDEF_56` (R166). -/
  | aluUndef56
  /-- `ALU_H_INC` (R161). -/
  | aluHInc
  /-- `ALU_UNDEF_58` (R166). -/
  | aluUndef58
  /-- `ALU_NEG_H` (R162). -/
  | aluNegH
  /-- `ALU_ADD` (R163). -/
  | aluAdd
  /-- `ALU_ADD_INC` (R164). -/
  | aluAddInc
  /-- `ALU_UNDEF_62` (R166). -/
  | aluUndef62
  /-- `ALU_B_MINUS_H` (R165). -/
  | aluBMinusH
  -- field Shift: the shifter function (R98)
  /-- `SH_NONE` (R172). -/
  | shNone
  /-- `SH_SLL8` (R173). -/
  | shSll8
  /-- `SH_SRL1` (R174). -/
  | shSrl1
  /-- `SH_RSVD3` (R176). -/
  | shRsvd3
  -- field Jump: one enabled modifier (R99)
  /-- `JAMN` (R231). -/
  | jamN
  /-- `JAMZ` (R232). -/
  | jamZ
  /-- `JMPC` (R233). -/
  | jmpC
  -- field NextMPC: the only immediate operand (R100)
  /-- `NEXT` (R122). -/
  | nextMpc (next : MicroAddr)
  deriving DecidableEq, Repr

/-- The seven field values of a microinstruction (R91). -/
structure Micro where
  /-- field B, bits 3..0 -/
  b    : BitVec 4
  /-- field Mem, bits 6..4 -/
  mem  : BitVec 3
  /-- field C, bits 15..7 -/
  c    : BitVec 9
  /-- field OP, bits 21..16 -/
  op   : BitVec 6
  /-- field Shift, bits 23..22 -/
  sh   : BitVec 2
  /-- field Jump, bits 26..24 -/
  j    : BitVec 3
  /-- field NextMPC, bits 35..27 -/
  next : MicroAddr
  deriving DecidableEq, Repr

end Sys2Proof
end

