-- ==== Sys2Proof/WellFormed.lean ====
section
/-! DEFINITION. Which lists of rows are the rows of one microinstruction (30_encoding.md R90, R110): one row of each of
NextMPC, B, OP and Shift, any of the Mem, C and Jump bits, each at most once, in the order of the cycle
(46_cycle.md R250). -/

namespace Sys2Proof

/-- The place of a row in the cycle (R250): decode, B-bus, ALU, shifter, the nine destinations (bit order), fetch,
read, write (R214), the three jump modifiers (bit order). -/
def Instr.place : Instr → Nat
  | .bMdr => 1
  | .bPc => 1
  | .bMbrS => 1
  | .bMbrU => 1
  | .bSp => 1
  | .bLv => 1
  | .bCpp => 1
  | .bTos => 1
  | .bOpc => 1
  | .bOnes9 => 1
  | .bOnes10 => 1
  | .bOnes11 => 1
  | .bOnes12 => 1
  | .bOnes13 => 1
  | .bOnes14 => 1
  | .bOnes15 => 1
  | .memFetch => 13
  | .memRead => 14
  | .memWrite => 15
  | .cMar => 4
  | .cMdr => 5
  | .cPc => 6
  | .cSp => 7
  | .cLv => 8
  | .cCpp => 9
  | .cTos => 10
  | .cOpc => 11
  | .cH => 12
  | .aluUndef0 => 2
  | .aluUndef1 => 2
  | .aluUndef2 => 2
  | .aluUndef3 => 2
  | .aluUndef4 => 2
  | .aluUndef5 => 2
  | .aluUndef6 => 2
  | .aluUndef7 => 2
  | .aluUndef8 => 2
  | .aluUndef9 => 2
  | .aluUndef10 => 2
  | .aluUndef11 => 2
  | .aluAnd => 2
  | .aluUndef13 => 2
  | .aluUndef14 => 2
  | .aluUndef15 => 2
  | .aluUndef16 => 2
  | .aluOne => 2
  | .aluMinusOne => 2
  | .aluUndef19 => 2
  | .aluB => 2
  | .aluUndef21 => 2
  | .aluUndef22 => 2
  | .aluUndef23 => 2
  | .aluH => 2
  | .aluUndef25 => 2
  | .aluNotH => 2
  | .aluUndef27 => 2
  | .aluOr => 2
  | .aluUndef29 => 2
  | .aluUndef30 => 2
  | .aluUndef31 => 2
  | .aluUndef32 => 2
  | .aluUndef33 => 2
  | .aluUndef34 => 2
  | .aluUndef35 => 2
  | .aluUndef36 => 2
  | .aluUndef37 => 2
  | .aluUndef38 => 2
  | .aluUndef39 => 2
  | .aluUndef40 => 2
  | .aluUndef41 => 2
  | .aluUndef42 => 2
  | .aluUndef43 => 2
  | .aluNotB => 2
  | .aluUndef45 => 2
  | .aluUndef46 => 2
  | .aluUndef47 => 2
  | .aluUndef48 => 2
  | .aluUndef49 => 2
  | .aluUndef50 => 2
  | .aluUndef51 => 2
  | .aluUndef52 => 2
  | .aluBInc => 2
  | .aluBDec => 2
  | .aluUndef55 => 2
  | .aluUndef56 => 2
  | .aluHInc => 2
  | .aluUndef58 => 2
  | .aluNegH => 2
  | .aluAdd => 2
  | .aluAddInc => 2
  | .aluUndef62 => 2
  | .aluBMinusH => 2
  | .shNone => 3
  | .shSll8 => 3
  | .shSrl1 => 3
  | .shRsvd3 => 3
  | .jamN => 16
  | .jamZ => 17
  | .jmpC => 18
  | .nextMpc _ => 0

/-- The list holds exactly one row of the given place. -/
def hasOneAt (place : Nat) (rows : List Instr) : Bool :=
  (rows.filter fun i => i.place == place).length == 1

/-- Exactly one NEXT row (R90: every field is present in every microinstruction). -/
def hasOneNext (rows : List Instr) : Bool := hasOneAt 0 rows

/-- Exactly one B row. -/
def hasOneB (rows : List Instr) : Bool := hasOneAt 1 rows

/-- Exactly one OP row. -/
def hasOneAlu (rows : List Instr) : Bool := hasOneAt 2 rows

/-- Exactly one Shift row. -/
def hasOneShift (rows : List Instr) : Bool := hasOneAt 3 rows

/-- The rows stand in the order of the cycle, no place twice: a bit is enabled or it is not (R95, R96, R99). -/
def inCycleOrder : List Instr → Bool
  | [] => true
  | [_] => true
  | i :: k :: rest => decide (i.place < k.place) && inCycleOrder (k :: rest)

/-- The list is the rows of one microinstruction. -/
def wellFormed (rows : List Instr) : Bool :=
  hasOneNext rows && hasOneB rows && hasOneAlu rows && hasOneShift rows && inCycleOrder rows

end Sys2Proof
end

