-- ==== Sys2Proof/Decode.lean ====
section
/-! DEFINITION. The decoder and the encoder (30_encoding.md R91 to R100, R103, R110; 40_decode.md R121, R123), and
the host's view of the decoder. -/

namespace Sys2Proof

/-- Field extraction by shift and mask (R121). -/
def Micro.ofWord (w : MicroWord) : Micro where
  b    := w.extractLsb' 0 4
  mem  := w.extractLsb' 4 3
  c    := w.extractLsb' 7 9
  op   := w.extractLsb' 16 6
  sh   := w.extractLsb' 22 2
  j    := w.extractLsb' 24 3
  next := w.extractLsb' 27 9

/-- The B row of a selector value (R94). The last pattern is the value 15: a 4-bit field has no other left. -/
def rowOfB (b : BitVec 4) : Instr :=
  match b.toNat with
  | 0 => .bMdr
  | 1 => .bPc
  | 2 => .bMbrS
  | 3 => .bMbrU
  | 4 => .bSp
  | 5 => .bLv
  | 6 => .bCpp
  | 7 => .bTos
  | 8 => .bOpc
  | 9 => .bOnes9
  | 10 => .bOnes10
  | 11 => .bOnes11
  | 12 => .bOnes12
  | 13 => .bOnes13
  | 14 => .bOnes14
  | _ => .bOnes15

/-- The OP row of an operation code (R97). The last pattern is the value 63. -/
def rowOfOp (op : BitVec 6) : Instr :=
  match op.toNat with
  | 0 => .aluUndef0
  | 1 => .aluUndef1
  | 2 => .aluUndef2
  | 3 => .aluUndef3
  | 4 => .aluUndef4
  | 5 => .aluUndef5
  | 6 => .aluUndef6
  | 7 => .aluUndef7
  | 8 => .aluUndef8
  | 9 => .aluUndef9
  | 10 => .aluUndef10
  | 11 => .aluUndef11
  | 12 => .aluAnd
  | 13 => .aluUndef13
  | 14 => .aluUndef14
  | 15 => .aluUndef15
  | 16 => .aluUndef16
  | 17 => .aluOne
  | 18 => .aluMinusOne
  | 19 => .aluUndef19
  | 20 => .aluB
  | 21 => .aluUndef21
  | 22 => .aluUndef22
  | 23 => .aluUndef23
  | 24 => .aluH
  | 25 => .aluUndef25
  | 26 => .aluNotH
  | 27 => .aluUndef27
  | 28 => .aluOr
  | 29 => .aluUndef29
  | 30 => .aluUndef30
  | 31 => .aluUndef31
  | 32 => .aluUndef32
  | 33 => .aluUndef33
  | 34 => .aluUndef34
  | 35 => .aluUndef35
  | 36 => .aluUndef36
  | 37 => .aluUndef37
  | 38 => .aluUndef38
  | 39 => .aluUndef39
  | 40 => .aluUndef40
  | 41 => .aluUndef41
  | 42 => .aluUndef42
  | 43 => .aluUndef43
  | 44 => .aluNotB
  | 45 => .aluUndef45
  | 46 => .aluUndef46
  | 47 => .aluUndef47
  | 48 => .aluUndef48
  | 49 => .aluUndef49
  | 50 => .aluUndef50
  | 51 => .aluUndef51
  | 52 => .aluUndef52
  | 53 => .aluBInc
  | 54 => .aluBDec
  | 55 => .aluUndef55
  | 56 => .aluUndef56
  | 57 => .aluHInc
  | 58 => .aluUndef58
  | 59 => .aluNegH
  | 60 => .aluAdd
  | 61 => .aluAddInc
  | 62 => .aluUndef62
  | _ => .aluBMinusH

/-- The Shift row of a shifter code (R98). The last pattern is the value 3. -/
def rowOfShift (sh : BitVec 2) : Instr :=
  match sh.toNat with
  | 0 => .shNone
  | 1 => .shSll8
  | 2 => .shSrl1
  | _ => .shRsvd3

/-- A row that applies when its bit is 1; nothing is done for a bit that is 0 (R110). -/
def rowIf (enabled : Bool) (i : Instr) : List Instr := if enabled then [i] else []

/-- The rows of the C mask, least significant bit first (R96). -/
def rowsOfC (c : BitVec 9) : List Instr :=
  rowIf (c.getLsbD 0) .cMar ++
    rowIf (c.getLsbD 1) .cMdr ++
    rowIf (c.getLsbD 2) .cPc ++
    rowIf (c.getLsbD 3) .cSp ++
    rowIf (c.getLsbD 4) .cLv ++
    rowIf (c.getLsbD 5) .cCpp ++
    rowIf (c.getLsbD 6) .cTos ++
    rowIf (c.getLsbD 7) .cOpc ++
    rowIf (c.getLsbD 8) .cH

/-- The rows of the Mem mask: fetch, read, write (R95, R214). -/
def rowsOfMem (mem : BitVec 3) : List Instr :=
  rowIf (mem.getLsbD 0) .memFetch ++ rowIf (mem.getLsbD 1) .memRead ++ rowIf (mem.getLsbD 2) .memWrite

/-- The rows of the Jump mask: JAMN, JAMZ, JMPC (R99). -/
def rowsOfJump (j : BitVec 3) : List Instr :=
  rowIf (j.getLsbD 0) .jamN ++ rowIf (j.getLsbD 1) .jamZ ++ rowIf (j.getLsbD 2) .jmpC

/-- The rows a microinstruction applies, in the order of the cycle (R110, R250). -/
def Micro.rows (m : Micro) : List Instr :=
  [.nextMpc m.next, rowOfB m.b, rowOfOp m.op, rowOfShift m.sh] ++ (rowsOfC m.c ++ (rowsOfMem m.mem ++ rowsOfJump m.j))

/-- The decoder: total on the 36-bit words, every one decodes (R102, R121, R123). -/
def decode (w : MicroWord) : List Instr := (Micro.ofWord w).rows

/-- Why a byte list is no control-store record. -/
inductive DecodeError where
  /-- A record is exactly `ROM_RECORD_BYTES` bytes (R103); safe: nothing is decoded from any other number. -/
  | notARecord (length : Nat)
  deriving DecidableEq, Repr

/-- The number whose little-endian bytes are the list (R103, R305). -/
def littleEndian : List Byte → Nat
  | [] => 0
  | x :: xs => x.toNat + 256 * littleEndian xs

/-- The control-store word of a record: the low 36 bits of its value; the bits above are discarded
(R103, R305; UNVERIFIED, the spec's own decision D3, safe: log 13). -/
def wordOfRecord (record : List Byte) : MicroWord := BitVec.ofNat 36 (littleEndian record)

/-- The decoder on bytes: one ROM record, or a rejection by name. -/
def decodeRecord (record : List Byte) : Except DecodeError (List Instr) :=
  if record.length = Config.romRecordBytes then .ok (decode (wordOfRecord record))
  else .error (.notARecord record.length)

/-! The encoder. -/

/-- The word of seven field values (R92). -/
def Micro.toWord (m : Micro) : MicroWord :=
  m.b.setWidth 36 ||| m.mem.setWidth 36 <<< 4 ||| m.c.setWidth 36 <<< 7 ||| m.op.setWidth 36 <<< 16 |||
    m.sh.setWidth 36 <<< 22 ||| m.j.setWidth 36 <<< 24 ||| m.next.setWidth 36 <<< 27

/-- The opcode table's `match` of a row (R110). The NEXT row's is 0: it always applies. -/
def rowMatch : Instr → MicroWord
  | .bMdr => 0x000000000#36
  | .bPc => 0x000000001#36
  | .bMbrS => 0x000000002#36
  | .bMbrU => 0x000000003#36
  | .bSp => 0x000000004#36
  | .bLv => 0x000000005#36
  | .bCpp => 0x000000006#36
  | .bTos => 0x000000007#36
  | .bOpc => 0x000000008#36
  | .bOnes9 => 0x000000009#36
  | .bOnes10 => 0x00000000A#36
  | .bOnes11 => 0x00000000B#36
  | .bOnes12 => 0x00000000C#36
  | .bOnes13 => 0x00000000D#36
  | .bOnes14 => 0x00000000E#36
  | .bOnes15 => 0x00000000F#36
  | .memFetch => 0x000000010#36
  | .memRead => 0x000000020#36
  | .memWrite => 0x000000040#36
  | .cMar => 0x000000080#36
  | .cMdr => 0x000000100#36
  | .cPc => 0x000000200#36
  | .cSp => 0x000000400#36
  | .cLv => 0x000000800#36
  | .cCpp => 0x000001000#36
  | .cTos => 0x000002000#36
  | .cOpc => 0x000004000#36
  | .cH => 0x000008000#36
  | .aluUndef0 => 0x000000000#36
  | .aluUndef1 => 0x000010000#36
  | .aluUndef2 => 0x000020000#36
  | .aluUndef3 => 0x000030000#36
  | .aluUndef4 => 0x000040000#36
  | .aluUndef5 => 0x000050000#36
  | .aluUndef6 => 0x000060000#36
  | .aluUndef7 => 0x000070000#36
  | .aluUndef8 => 0x000080000#36
  | .aluUndef9 => 0x000090000#36
  | .aluUndef10 => 0x0000A0000#36
  | .aluUndef11 => 0x0000B0000#36
  | .aluAnd => 0x0000C0000#36
  | .aluUndef13 => 0x0000D0000#36
  | .aluUndef14 => 0x0000E0000#36
  | .aluUndef15 => 0x0000F0000#36
  | .aluUndef16 => 0x000100000#36
  | .aluOne => 0x000110000#36
  | .aluMinusOne => 0x000120000#36
  | .aluUndef19 => 0x000130000#36
  | .aluB => 0x000140000#36
  | .aluUndef21 => 0x000150000#36
  | .aluUndef22 => 0x000160000#36
  | .aluUndef23 => 0x000170000#36
  | .aluH => 0x000180000#36
  | .aluUndef25 => 0x000190000#36
  | .aluNotH => 0x0001A0000#36
  | .aluUndef27 => 0x0001B0000#36
  | .aluOr => 0x0001C0000#36
  | .aluUndef29 => 0x0001D0000#36
  | .aluUndef30 => 0x0001E0000#36
  | .aluUndef31 => 0x0001F0000#36
  | .aluUndef32 => 0x000200000#36
  | .aluUndef33 => 0x000210000#36
  | .aluUndef34 => 0x000220000#36
  | .aluUndef35 => 0x000230000#36
  | .aluUndef36 => 0x000240000#36
  | .aluUndef37 => 0x000250000#36
  | .aluUndef38 => 0x000260000#36
  | .aluUndef39 => 0x000270000#36
  | .aluUndef40 => 0x000280000#36
  | .aluUndef41 => 0x000290000#36
  | .aluUndef42 => 0x0002A0000#36
  | .aluUndef43 => 0x0002B0000#36
  | .aluNotB => 0x0002C0000#36
  | .aluUndef45 => 0x0002D0000#36
  | .aluUndef46 => 0x0002E0000#36
  | .aluUndef47 => 0x0002F0000#36
  | .aluUndef48 => 0x000300000#36
  | .aluUndef49 => 0x000310000#36
  | .aluUndef50 => 0x000320000#36
  | .aluUndef51 => 0x000330000#36
  | .aluUndef52 => 0x000340000#36
  | .aluBInc => 0x000350000#36
  | .aluBDec => 0x000360000#36
  | .aluUndef55 => 0x000370000#36
  | .aluUndef56 => 0x000380000#36
  | .aluHInc => 0x000390000#36
  | .aluUndef58 => 0x0003A0000#36
  | .aluNegH => 0x0003B0000#36
  | .aluAdd => 0x0003C0000#36
  | .aluAddInc => 0x0003D0000#36
  | .aluUndef62 => 0x0003E0000#36
  | .aluBMinusH => 0x0003F0000#36
  | .shNone => 0x000000000#36
  | .shSll8 => 0x000400000#36
  | .shSrl1 => 0x000800000#36
  | .shRsvd3 => 0x000C00000#36
  | .jamN => 0x001000000#36
  | .jamZ => 0x002000000#36
  | .jmpC => 0x004000000#36
  | .nextMpc _ => 0x000000000#36

/-- The opcode table's `mask` of a row (R110): the bits that must agree with `rowMatch`. -/
def rowMask : Instr → MicroWord
  | .bMdr => 0x00000000F#36
  | .bPc => 0x00000000F#36
  | .bMbrS => 0x00000000F#36
  | .bMbrU => 0x00000000F#36
  | .bSp => 0x00000000F#36
  | .bLv => 0x00000000F#36
  | .bCpp => 0x00000000F#36
  | .bTos => 0x00000000F#36
  | .bOpc => 0x00000000F#36
  | .bOnes9 => 0x00000000F#36
  | .bOnes10 => 0x00000000F#36
  | .bOnes11 => 0x00000000F#36
  | .bOnes12 => 0x00000000F#36
  | .bOnes13 => 0x00000000F#36
  | .bOnes14 => 0x00000000F#36
  | .bOnes15 => 0x00000000F#36
  | .memFetch => 0x000000010#36
  | .memRead => 0x000000020#36
  | .memWrite => 0x000000040#36
  | .cMar => 0x000000080#36
  | .cMdr => 0x000000100#36
  | .cPc => 0x000000200#36
  | .cSp => 0x000000400#36
  | .cLv => 0x000000800#36
  | .cCpp => 0x000001000#36
  | .cTos => 0x000002000#36
  | .cOpc => 0x000004000#36
  | .cH => 0x000008000#36
  | .aluUndef0 => 0x0003F0000#36
  | .aluUndef1 => 0x0003F0000#36
  | .aluUndef2 => 0x0003F0000#36
  | .aluUndef3 => 0x0003F0000#36
  | .aluUndef4 => 0x0003F0000#36
  | .aluUndef5 => 0x0003F0000#36
  | .aluUndef6 => 0x0003F0000#36
  | .aluUndef7 => 0x0003F0000#36
  | .aluUndef8 => 0x0003F0000#36
  | .aluUndef9 => 0x0003F0000#36
  | .aluUndef10 => 0x0003F0000#36
  | .aluUndef11 => 0x0003F0000#36
  | .aluAnd => 0x0003F0000#36
  | .aluUndef13 => 0x0003F0000#36
  | .aluUndef14 => 0x0003F0000#36
  | .aluUndef15 => 0x0003F0000#36
  | .aluUndef16 => 0x0003F0000#36
  | .aluOne => 0x0003F0000#36
  | .aluMinusOne => 0x0003F0000#36
  | .aluUndef19 => 0x0003F0000#36
  | .aluB => 0x0003F0000#36
  | .aluUndef21 => 0x0003F0000#36
  | .aluUndef22 => 0x0003F0000#36
  | .aluUndef23 => 0x0003F0000#36
  | .aluH => 0x0003F0000#36
  | .aluUndef25 => 0x0003F0000#36
  | .aluNotH => 0x0003F0000#36
  | .aluUndef27 => 0x0003F0000#36
  | .aluOr => 0x0003F0000#36
  | .aluUndef29 => 0x0003F0000#36
  | .aluUndef30 => 0x0003F0000#36
  | .aluUndef31 => 0x0003F0000#36
  | .aluUndef32 => 0x0003F0000#36
  | .aluUndef33 => 0x0003F0000#36
  | .aluUndef34 => 0x0003F0000#36
  | .aluUndef35 => 0x0003F0000#36
  | .aluUndef36 => 0x0003F0000#36
  | .aluUndef37 => 0x0003F0000#36
  | .aluUndef38 => 0x0003F0000#36
  | .aluUndef39 => 0x0003F0000#36
  | .aluUndef40 => 0x0003F0000#36
  | .aluUndef41 => 0x0003F0000#36
  | .aluUndef42 => 0x0003F0000#36
  | .aluUndef43 => 0x0003F0000#36
  | .aluNotB => 0x0003F0000#36
  | .aluUndef45 => 0x0003F0000#36
  | .aluUndef46 => 0x0003F0000#36
  | .aluUndef47 => 0x0003F0000#36
  | .aluUndef48 => 0x0003F0000#36
  | .aluUndef49 => 0x0003F0000#36
  | .aluUndef50 => 0x0003F0000#36
  | .aluUndef51 => 0x0003F0000#36
  | .aluUndef52 => 0x0003F0000#36
  | .aluBInc => 0x0003F0000#36
  | .aluBDec => 0x0003F0000#36
  | .aluUndef55 => 0x0003F0000#36
  | .aluUndef56 => 0x0003F0000#36
  | .aluHInc => 0x0003F0000#36
  | .aluUndef58 => 0x0003F0000#36
  | .aluNegH => 0x0003F0000#36
  | .aluAdd => 0x0003F0000#36
  | .aluAddInc => 0x0003F0000#36
  | .aluUndef62 => 0x0003F0000#36
  | .aluBMinusH => 0x0003F0000#36
  | .shNone => 0x000C00000#36
  | .shSll8 => 0x000C00000#36
  | .shSrl1 => 0x000C00000#36
  | .shRsvd3 => 0x000C00000#36
  | .jamN => 0x001000000#36
  | .jamZ => 0x002000000#36
  | .jmpC => 0x004000000#36
  | .nextMpc _ => 0x000000000#36

/-- The bits one row contributes to its microinstruction: its `match`, and for NEXT its operand at bits 35..27. -/
def encodeRow : Instr → MicroWord
  | .nextMpc next => next.setWidth 36 <<< 27
  | i => rowMatch i

/-- The word of a well-formed list of rows (R92). -/
def encode (rows : List Instr) : MicroWord := rows.foldr (fun i w => encodeRow i ||| w) 0

/-- The low `n` bytes of a number, lowest first: how the ROM image stores it (R103). -/
def bytesOfNat : Nat → Nat → List Byte
  | 0, _ => []
  | n + 1, v => BitVec.ofNat 8 v :: bytesOfNat n (v / 256)

/-- The record that stores a word in the ROM image (R103). -/
def recordOfWord (w : MicroWord) : List Byte := bytesOfNat Config.romRecordBytes w.toNat

/-! The host's view. -/

/-- The one row that stands for a decoded word where the host asks for one: the first, in the order of the cycle,
that contributes a bit to the word; for the word 0, which no row's bits single out, the B row
(DESIGN CHOICE, safe: log 12). -/
def principalRow (rows : List Instr) : Option Instr :=
  match rows.find? fun i => encodeRow i != 0 with
  | some i => some i
  | none => rows.find? fun i => i.place == 1

/-- The row the decoder reads from the record of the `nbits`-bit word `w`, every bit above being 0. -/
def decodeTableWord (nbits w : Nat) : Option Instr :=
  match decodeRecord (bytesOfNat Config.romRecordBytes (w % 2 ^ nbits)) with
  | .ok rows => principalRow rows
  | .error _ => none

end Sys2Proof
end

