-- ==== Sys2Proof/Machine/State.lean ====
section
/-! DEFINITION. The state of the CORE (10_state.md R20 to R44, 20_memory.md R60 to R63), what stops a step, and reset. -/

namespace Sys2Proof.Machine

/-- The run status (R38). UNVERIFIED (the spec's own decision D9), safe: log 9. -/
inductive RunStatus where
  | running
  | faulted
  deriving DecidableEq, Repr

/-- Which memory operation an access is (R271). -/
inductive AccessKind where
  | fetch
  | read
  | write
  deriving DecidableEq, Repr

/-- Why the machine stops. -/
inductive Fault where
  /-- `MemoryBoundsFault(kind, offset)` (R271): raised by the rows MEM_FETCH, MEM_READ and MEM_WRITE when the byte
  offset, untruncated, lies outside main memory. Safe: the spec names it and it is terminal (R272). -/
  | memoryBounds (kind : AccessKind) (offset : Nat)
  /-- Raised by a step of a machine whose status is FAULTED: no further cycle is performed (R38, R272). Safe. -/
  | machineFaulted
  deriving DecidableEq, Repr

/-- Why an instruction has no meaning. -/
inductive Refusal where
  /-- The row of that mnemonic is not modelled. Raised by no arm of this model. Safe. -/
  | notModelled (mnemonic : String)
  deriving DecidableEq, Repr

/-- Main memory: the bytes that differ from `Config.memFill`, addresses rising (R63, R307). -/
abbrev Memory := List Host.Cell

/-- The control store: the words that differ from `Config.csFill`, indexes rising (R61). -/
abbrev ControlStore := List (Nat × MicroWord)

/-- The state at a cycle boundary, and between two rows of a cycle. -/
structure State where
  /-- MAR, the word-granular memory address register (R21) -/
  mar : Word
  /-- MDR, the memory data register (R22) -/
  mdr : Word
  /-- PC, a byte address into main memory (R23) -/
  pc : Word
  /-- MBR, the byte last fetched (R24) -/
  mbr : Byte
  /-- SP (R25) -/
  sp : Word
  /-- LV (R26) -/
  lv : Word
  /-- CPP (R27) -/
  cpp : Word
  /-- TOS (R28) -/
  tos : Word
  /-- OPC (R29) -/
  opc : Word
  /-- H, the ALU's left operand (R30) -/
  h : Word
  /-- MPC, the program counter of the microinstruction stream (R31) -/
  mpc : MicroAddr
  /-- N, "nonzero" (R32) -/
  n : Bool
  /-- Z, "zero" (R33) -/
  z : Bool
  /-- B, the B-bus latch (R36) -/
  b : Word
  /-- C, the C-bus latch, the value after the shifter (R37) -/
  c : Word
  /-- MIR, the microinstruction last latched (R35) -/
  mir : MicroWord
  /-- the run status (R38) -/
  status : RunStatus
  /-- main memory (20_memory.md R63) -/
  mem : Memory
  /-- the control store (20_memory.md R61); R62 makes it a parameter, held here (DESIGN CHOICE, safe: log 3) -/
  cs : ControlStore
  /-- the model's own: the wire `A` from the ALU to the shifter inside one cycle (R150, R171); 0 between cycles (DESIGN CHOICE, safe: log 2) -/
  aluOut : Word
  deriving DecidableEq, Repr

/-- Every cell after reset (R42): data registers, MBR and MPC 0; N, Z, B, C and MIR 0 (UNVERIFIED, the spec's own
decisions D10 and D11, log 10); status RUNNING; nothing listed in either memory (logs 3 and 4). -/
def State.reset : State where
  mar := 0
  mdr := 0
  pc := 0
  mbr := 0
  sp := 0
  lv := 0
  cpp := 0
  tos := 0
  opc := 0
  h := 0
  mpc := 0
  n := false
  z := false
  b := 0
  c := 0
  mir := 0
  status := .running
  mem := []
  cs := []
  aluOut := 0

/-- What one row or one step answers. -/
abbrev Result := Host.Outcome State Fault Refusal

end Sys2Proof.Machine
end

