-- ==== Sys2Proof/Machine/Ops.lean ====
section
/-! DEFINITION. The named operations over memory and registers that every meaning uses: the two sparse memories,
`MemRead` and `MemWrite` (20_memory.md R64 to R69), one write per cell, and taking the one fault
(60_exceptions.md R271, R272). -/

namespace Sys2Proof.Machine

/-! Sparse arrays: a list of the entries that differ from what an unlisted key reads as. -/

/-- The entry of a key, or what an unlisted key reads as. -/
def sparseGet {α : Type} (fill : α) : List (Nat × α) → Nat → α
  | [], _ => fill
  | (k, v) :: rest, a => if k = a then v else sparseGet fill rest a

/-- The list without a key. -/
def sparseErase {α : Type} : List (Nat × α) → Nat → List (Nat × α)
  | [], _ => []
  | (k, v) :: rest, a => if k = a then sparseErase rest a else (k, v) :: sparseErase rest a

/-- A new entry before the first larger key. -/
def sparseInsert {α : Type} : List (Nat × α) → Nat → α → List (Nat × α)
  | [], a, v => [(a, v)]
  | (k, w) :: rest, a, v => if a < k then (a, v) :: (k, w) :: rest else (k, w) :: sparseInsert rest a v

/-- Write one entry; writing what an unlisted key reads as removes the entry. -/
def sparseSet {α : Type} [DecidableEq α] (fill : α) (l : List (Nat × α)) (a : Nat) (v : α) : List (Nat × α) :=
  if v = fill then sparseErase l a else sparseInsert (sparseErase l a) a v

/-- The canonical form from a lowest key up: keys strictly rising and below the bound, no entry equal to the fill. -/
def sparseWf {α : Type} [DecidableEq α] (fill : α) (bound : Nat) : Nat → List (Nat × α) → Bool
  | _, [] => true
  | lo, (k, v) :: rest =>
    decide (lo ≤ k) && decide (k < bound) && !decide (v = fill) && sparseWf fill bound (k + 1) rest

/-! The control store (R60 to R62). -/

/-- `CS[i]` (R61). -/
def ControlStore.fetch (cs : ControlStore) (i : Nat) : MicroWord := sparseGet Config.csFill cs i

/-- The control store with word `i` replaced: the loader's only, no row writes it (R62). -/
def ControlStore.place (cs : ControlStore) (i : Nat) (w : MicroWord) : ControlStore := sparseSet Config.csFill cs i w

/-- The canonical form of a control store. -/
def ControlStore.wf (cs : ControlStore) : Bool := sparseWf Config.csFill Config.csEntries 0 cs

/-! Main memory (R63 to R69). -/

/-- `MEM[a]`, the array itself, without the bounds check. -/
def Memory.byteAt (m : Memory) (a : Nat) : Byte := sparseGet Config.memFill m a

/-- The array with the byte at `a` replaced, without the bounds check. -/
def Memory.setByte (m : Memory) (a : Nat) (v : Byte) : Memory := sparseSet Config.memFill m a v

/-- The canonical form of a memory: addresses strictly rising and inside the array, no entry equal to the fill. -/
def Memory.wf (m : Memory) : Bool := sparseWf Config.memFill Config.memBytes 0 m

/-- Byte `k` of a word, `v[8k+7:8k]` (R65). -/
def wordByte (v : Word) (k : Nat) : Byte := v.extractLsb' (8 * k) 8

/-- The word whose bytes stand at `a`, `a+1`, `a+2`, `a+3`, little-endian (R65, R68). -/
def Memory.wordAt (m : Memory) (a : Nat) : Word :=
  m.byteAt (a + 3) ++ m.byteAt (a + 2) ++ m.byteAt (a + 1) ++ m.byteAt a

/-- The array with the four bytes of `v` at `a`, little-endian (R65, R69). -/
def Memory.setWord (m : Memory) (a : Nat) (v : Word) : Memory :=
  (((m.setByte a (wordByte v 0)).setByte (a + 1) (wordByte v 1)).setByte (a + 2) (wordByte v 2)).setByte (a + 3)
    (wordByte v 3)

/-- A byte offset is in bounds (R66; UNVERIFIED, the spec's own decision D7, safe: log 8). -/
def byteInBounds (a : Nat) : Bool := decide (a < Config.memBytes)

/-- A word's byte offset is in bounds (R67). -/
def wordInBounds (a : Nat) : Bool := decide (a + 3 < Config.memBytes)

/-- The byte offset of a word address: `4 * w`, not truncated to 32 bits (R64; UNVERIFIED, the spec's own decision
D6, safe: log 7). -/
def wordOffset (w : Word) : Nat := 4 * w.toNat

/-- `MemRead(a, 1)` (R66): nothing where it raises. -/
def Memory.read1 (m : Memory) (a : Nat) : Option Byte := if byteInBounds a then some (m.byteAt a) else none

/-- `MemRead(a, 4)` (R68): nothing where it raises. -/
def Memory.read4 (m : Memory) (a : Nat) : Option Word := if wordInBounds a then some (m.wordAt a) else none

/-- `MemWrite(a, 4, v)` (R69): nothing where it raises, and then no byte is changed. -/
def Memory.write4 (m : Memory) (a : Nat) (v : Word) : Option Memory :=
  if wordInBounds a then some (m.setWord a v) else none

/-! One write per cell (R9: `X <- v`; R41: a write replaces the whole cell). -/

def State.setMar (s : State) (v : Word) : State := { s with mar := v }

def State.setMdr (s : State) (v : Word) : State := { s with mdr := v }

def State.setPc (s : State) (v : Word) : State := { s with pc := v }

def State.setMbr (s : State) (v : Byte) : State := { s with mbr := v }

def State.setSp (s : State) (v : Word) : State := { s with sp := v }

def State.setLv (s : State) (v : Word) : State := { s with lv := v }

def State.setCpp (s : State) (v : Word) : State := { s with cpp := v }

def State.setTos (s : State) (v : Word) : State := { s with tos := v }

def State.setOpc (s : State) (v : Word) : State := { s with opc := v }

def State.setH (s : State) (v : Word) : State := { s with h := v }

def State.setMpc (s : State) (v : MicroAddr) : State := { s with mpc := v }

def State.setB (s : State) (v : Word) : State := { s with b := v }

def State.setC (s : State) (v : Word) : State := { s with c := v }

def State.setMir (s : State) (v : MicroWord) : State := { s with mir := v }

def State.setStatus (s : State) (v : RunStatus) : State := { s with status := v }

def State.setMem (s : State) (v : Memory) : State := { s with mem := v }

def State.setCs (s : State) (v : ControlStore) : State := { s with cs := v }

def State.setAluOut (s : State) (v : Word) : State := { s with aluOut := v }

/-- Both flags at once: the flag logic always writes the pair (R170). -/
def State.setFlags (s : State) (n z : Bool) : State := { s with n := n, z := z }

/-! The end of a row. -/

/-- Run the next row on what the last one left; a stop stays a stop. -/
def andThen (r : Result) (k : State → Result) : Result :=
  match r with
  | .next s => k s
  | .fault f => .fault f
  | .refused x => .refused x

/-- `raise MemoryBoundsFault(kind, offset)` (R271): the outcome of the step. -/
def raiseMemoryBounds (kind : AccessKind) (offset : Nat) : Result := .fault (.memoryBounds kind offset)

/-- Taking the fault (R272): the status becomes FAULTED and no cell of the spec changes (the model's own wire A is
put back to 0, as at the end of every cycle). No state is saved, no handler is entered, MPC is not redirected (R278).
Applied to the state the failing operation found, since that operation changes nothing. There is no return from it (R279). UNVERIFIED (the spec's own decision D9), safe: log 9. -/
def State.takeFault (s : State) : State := (s.setStatus .faulted).setAluOut 0

end Sys2Proof.Machine
end

