-- ==== Sys2Proof/Machine/Flags.lean ====
section
/-! DEFINITION. The flag logic (42_alu_shifter_flags.md R170): both flags, from the ALU output before the shifter,
in every cycle. -/

namespace Sys2Proof.Machine

/-- `Z`: the ALU output is 0 (R170). -/
def zeroFlag (a : Word) : Bool := a == 0

/-- `N`: the ALU output is not 0. It is not the sign bit (R170). -/
def nonzeroFlag (a : Word) : Bool := a != 0

/-- The flags of an ALU output (R170). -/
def State.flagsOf (s : State) (a : Word) : State := s.setFlags (nonzeroFlag a) (zeroFlag a)

end Sys2Proof.Machine
end

