-- ==== Sys2Proof/Machine/Operands.lean ====
section
/-! DEFINITION. The operand forms: the widened reads of MBR, the fallback lane, the shifter's functions and the
values OR-ed into MPC (00_scope.md R9, 41_bbus.md R133, R134, R140, 42_alu_shifter_flags.md R172 to R176,
45_jump_nextmpc.md R231 to R233). -/

namespace Sys2Proof.Machine

/-- `sext_32(MBR)` (R133). -/
def mbrSigned (s : State) : Word := s.mbr.signExtend 32

/-- `zext_32(MBR)` (R134). -/
def mbrUnsigned (s : State) : Word := s.mbr.setWidth 32

/-- `zext_9(MBR)` (R233). -/
def mbrIndex (s : State) : MicroAddr := s.mbr.setWidth 9

/-- The fallback lane of the B-bus: all ones (R140). -/
def onesLane : Word := 0xFFFFFFFF#32

/-- The fallback value of the ALU: 0 (R166). -/
def undefinedOpValue : Word := 0x00000000#32

/-- Logical left by 8 (R173). -/
def sll8 (a : Word) : Word := a <<< 8

/-- Logical right by 1 (R174): a zero enters at bit 31. -/
def srl1 (a : Word) : Word := a >>> 1

/-- Shifter value 3 (R176): pass-through. UNVERIFIED (the spec's own decision D4), unsafe: log 5. -/
def shift3 (a : Word) : Word := a

/-- A flag placed at bit 8 of a control-store index: `F << 8` (R231, R232). -/
def flagAtBit8 (flag : Bool) : MicroAddr := if flag then 0x100#9 else 0x000#9

end Sys2Proof.Machine
end

