-- ==== Sys2Proof/Machine/Alu.lean ====
section
/-! DEFINITION. The ALU (42_alu_shifter_flags.md R150 to R167): an output `A` of H and the B latch modulo 2^32, put on the wire to
the shifter, and both flags from it (R170). It never faults. The undefined codes yield 0 (R166). -/

namespace Sys2Proof.Machine

/-- The ALU output `A`: onto the wire, and into the flags (R150, R170). -/
def driveAlu (s : State) (a : Word) : Result := .next ((s.setAluOut a).flagsOf a)

/-- `ALU_UNDEF_0` (R166). `A <- 0`. -/
def execAluUndef0 (s : State) : Result := driveAlu s undefinedOpValue

/-- `ALU_UNDEF_1` (R166). `A <- 0`. -/
def execAluUndef1 (s : State) : Result := driveAlu s undefinedOpValue

/-- `ALU_UNDEF_2` (R166). `A <- 0`. -/
def execAluUndef2 (s : State) : Result := driveAlu s undefinedOpValue

/-- `ALU_UNDEF_3` (R166). `A <- 0`. -/
def execAluUndef3 (s : State) : Result := driveAlu s undefinedOpValue

/-- `ALU_UNDEF_4` (R166). `A <- 0`. -/
def execAluUndef4 (s : State) : Result := driveAlu s undefinedOpValue

/-- `ALU_UNDEF_5` (R166). `A <- 0`. -/
def execAluUndef5 (s : State) : Result := driveAlu s undefinedOpValue

/-- `ALU_UNDEF_6` (R166). `A <- 0`. -/
def execAluUndef6 (s : State) : Result := driveAlu s undefinedOpValue

/-- `ALU_UNDEF_7` (R166). `A <- 0`. -/
def execAluUndef7 (s : State) : Result := driveAlu s undefinedOpValue

/-- `ALU_UNDEF_8` (R166). `A <- 0`. -/
def execAluUndef8 (s : State) : Result := driveAlu s undefinedOpValue

/-- `ALU_UNDEF_9` (R166). `A <- 0`. -/
def execAluUndef9 (s : State) : Result := driveAlu s undefinedOpValue

/-- `ALU_UNDEF_10` (R166). `A <- 0`. -/
def execAluUndef10 (s : State) : Result := driveAlu s undefinedOpValue

/-- `ALU_UNDEF_11` (R166). `A <- 0`. -/
def execAluUndef11 (s : State) : Result := driveAlu s undefinedOpValue

/-- `ALU_AND` (R151). `A <- H AND B`. -/
def execAluAnd (s : State) : Result := driveAlu s (s.h &&& s.b)

/-- `ALU_UNDEF_13` (R166). `A <- 0`. -/
def execAluUndef13 (s : State) : Result := driveAlu s undefinedOpValue

/-- `ALU_UNDEF_14` (R166). `A <- 0`. -/
def execAluUndef14 (s : State) : Result := driveAlu s undefinedOpValue

/-- `ALU_UNDEF_15` (R166). `A <- 0`. -/
def execAluUndef15 (s : State) : Result := driveAlu s undefinedOpValue

/-- `ALU_UNDEF_16` (R166). `A <- 0`. -/
def execAluUndef16 (s : State) : Result := driveAlu s undefinedOpValue

/-- `ALU_ONE` (R152). `A <- 1`. -/
def execAluOne (s : State) : Result := driveAlu s 0x00000001#32

/-- `ALU_MINUS_ONE` (R153). `A <- 0xFFFFFFFF`. -/
def execAluMinusOne (s : State) : Result := driveAlu s 0xFFFFFFFF#32

/-- `ALU_UNDEF_19` (R166). `A <- 0`. -/
def execAluUndef19 (s : State) : Result := driveAlu s undefinedOpValue

/-- `ALU_B` (R154). `A <- B`. -/
def execAluB (s : State) : Result := driveAlu s s.b

/-- `ALU_UNDEF_21` (R166). `A <- 0`. -/
def execAluUndef21 (s : State) : Result := driveAlu s undefinedOpValue

/-- `ALU_UNDEF_22` (R166). `A <- 0`. -/
def execAluUndef22 (s : State) : Result := driveAlu s undefinedOpValue

/-- `ALU_UNDEF_23` (R166). `A <- 0`. -/
def execAluUndef23 (s : State) : Result := driveAlu s undefinedOpValue

/-- `ALU_H` (R155). `A <- H`. -/
def execAluH (s : State) : Result := driveAlu s s.h

/-- `ALU_UNDEF_25` (R166). `A <- 0`. -/
def execAluUndef25 (s : State) : Result := driveAlu s undefinedOpValue

/-- `ALU_NOT_H` (R156). `A <- NOT H`. -/
def execAluNotH (s : State) : Result := driveAlu s (~~~ s.h)

/-- `ALU_UNDEF_27` (R166). `A <- 0`. -/
def execAluUndef27 (s : State) : Result := driveAlu s undefinedOpValue

/-- `ALU_OR` (R157). `A <- H OR B`. -/
def execAluOr (s : State) : Result := driveAlu s (s.h ||| s.b)

/-- `ALU_UNDEF_29` (R166). `A <- 0`. -/
def execAluUndef29 (s : State) : Result := driveAlu s undefinedOpValue

/-- `ALU_UNDEF_30` (R166). `A <- 0`. -/
def execAluUndef30 (s : State) : Result := driveAlu s undefinedOpValue

/-- `ALU_UNDEF_31` (R166). `A <- 0`. -/
def execAluUndef31 (s : State) : Result := driveAlu s undefinedOpValue

/-- `ALU_UNDEF_32` (R166). `A <- 0`. -/
def execAluUndef32 (s : State) : Result := driveAlu s undefinedOpValue

/-- `ALU_UNDEF_33` (R166). `A <- 0`. -/
def execAluUndef33 (s : State) : Result := driveAlu s undefinedOpValue

/-- `ALU_UNDEF_34` (R166). `A <- 0`. -/
def execAluUndef34 (s : State) : Result := driveAlu s undefinedOpValue

/-- `ALU_UNDEF_35` (R166). `A <- 0`. -/
def execAluUndef35 (s : State) : Result := driveAlu s undefinedOpValue

/-- `ALU_UNDEF_36` (R166). `A <- 0`. -/
def execAluUndef36 (s : State) : Result := driveAlu s undefinedOpValue

/-- `ALU_UNDEF_37` (R166). `A <- 0`. -/
def execAluUndef37 (s : State) : Result := driveAlu s undefinedOpValue

/-- `ALU_UNDEF_38` (R166). `A <- 0`. -/
def execAluUndef38 (s : State) : Result := driveAlu s undefinedOpValue

/-- `ALU_UNDEF_39` (R166). `A <- 0`. -/
def execAluUndef39 (s : State) : Result := driveAlu s undefinedOpValue

/-- `ALU_UNDEF_40` (R166). `A <- 0`. -/
def execAluUndef40 (s : State) : Result := driveAlu s undefinedOpValue

/-- `ALU_UNDEF_41` (R166). `A <- 0`. -/
def execAluUndef41 (s : State) : Result := driveAlu s undefinedOpValue

/-- `ALU_UNDEF_42` (R166). `A <- 0`. -/
def execAluUndef42 (s : State) : Result := driveAlu s undefinedOpValue

/-- `ALU_UNDEF_43` (R166). `A <- 0`. -/
def execAluUndef43 (s : State) : Result := driveAlu s undefinedOpValue

/-- `ALU_NOT_B` (R158). `A <- NOT B`. -/
def execAluNotB (s : State) : Result := driveAlu s (~~~ s.b)

/-- `ALU_UNDEF_45` (R166). `A <- 0`. -/
def execAluUndef45 (s : State) : Result := driveAlu s undefinedOpValue

/-- `ALU_UNDEF_46` (R166). `A <- 0`. -/
def execAluUndef46 (s : State) : Result := driveAlu s undefinedOpValue

/-- `ALU_UNDEF_47` (R166). `A <- 0`. -/
def execAluUndef47 (s : State) : Result := driveAlu s undefinedOpValue

/-- `ALU_UNDEF_48` (R166). `A <- 0`. -/
def execAluUndef48 (s : State) : Result := driveAlu s undefinedOpValue

/-- `ALU_UNDEF_49` (R166). `A <- 0`. -/
def execAluUndef49 (s : State) : Result := driveAlu s undefinedOpValue

/-- `ALU_UNDEF_50` (R166). `A <- 0`. -/
def execAluUndef50 (s : State) : Result := driveAlu s undefinedOpValue

/-- `ALU_UNDEF_51` (R166). `A <- 0`. -/
def execAluUndef51 (s : State) : Result := driveAlu s undefinedOpValue

/-- `ALU_UNDEF_52` (R166). `A <- 0`. -/
def execAluUndef52 (s : State) : Result := driveAlu s undefinedOpValue

/-- `ALU_B_INC` (R159). `A <- (B + 1) mod 2^32`. -/
def execAluBInc (s : State) : Result := driveAlu s (s.b + 1)

/-- `ALU_B_DEC` (R160). `A <- (B - 1) mod 2^32`. -/
def execAluBDec (s : State) : Result := driveAlu s (s.b - 1)

/-- `ALU_UNDEF_55` (R166). `A <- 0`. -/
def execAluUndef55 (s : State) : Result := driveAlu s undefinedOpValue

/-- `ALU_UNDEF_56` (R166). `A <- 0`. -/
def execAluUndef56 (s : State) : Result := driveAlu s undefinedOpValue

/-- `ALU_H_INC` (R161). `A <- (H + 1) mod 2^32`. -/
def execAluHInc (s : State) : Result := driveAlu s (s.h + 1)

/-- `ALU_UNDEF_58` (R166). `A <- 0`. -/
def execAluUndef58 (s : State) : Result := driveAlu s undefinedOpValue

/-- `ALU_NEG_H` (R162). `A <- (0 - H) mod 2^32`. -/
def execAluNegH (s : State) : Result := driveAlu s (- s.h)

/-- `ALU_ADD` (R163). `A <- (H + B) mod 2^32`. -/
def execAluAdd (s : State) : Result := driveAlu s (s.h + s.b)

/-- `ALU_ADD_INC` (R164). `A <- (H + B + 1) mod 2^32`. -/
def execAluAddInc (s : State) : Result := driveAlu s (s.h + s.b + 1)

/-- `ALU_UNDEF_62` (R166). `A <- 0`. -/
def execAluUndef62 (s : State) : Result := driveAlu s undefinedOpValue

/-- `ALU_B_MINUS_H` (R165). `A <- (B - H) mod 2^32`. -/
def execAluBMinusH (s : State) : Result := driveAlu s (s.b - s.h)

end Sys2Proof.Machine
end

