-- ==== Sys2Proof/Machine/BBus.lean ====
section
/-! DEFINITION. The B-bus selector (41_bbus.md R130 to R141): the selected source is written to the B latch, and nothing else
changes. It never faults. -/

namespace Sys2Proof.Machine

/-- `B <- v` (R130). -/
def driveB (s : State) (v : Word) : Result := .next (s.setB v)

/-- `B_MDR` (R131). `B <- MDR`. -/
def execBMdr (s : State) : Result := driveB s s.mdr

/-- `B_PC` (R132). `B <- PC`. -/
def execBPc (s : State) : Result := driveB s s.pc

/-- `B_MBR_S` (R133). `B <- sext_32(MBR)`. -/
def execBMbrS (s : State) : Result := driveB s (mbrSigned s)

/-- `B_MBR_U` (R134). `B <- zext_32(MBR)`. -/
def execBMbrU (s : State) : Result := driveB s (mbrUnsigned s)

/-- `B_SP` (R135). `B <- SP`. -/
def execBSp (s : State) : Result := driveB s s.sp

/-- `B_LV` (R136). `B <- LV`. -/
def execBLv (s : State) : Result := driveB s s.lv

/-- `B_CPP` (R137). `B <- CPP`. -/
def execBCpp (s : State) : Result := driveB s s.cpp

/-- `B_TOS` (R138). `B <- TOS`. -/
def execBTos (s : State) : Result := driveB s s.tos

/-- `B_OPC` (R139). `B <- OPC`. -/
def execBOpc (s : State) : Result := driveB s s.opc

/-- `B_ONES_9` (R140). `B <- 0xFFFFFFFF`. -/
def execBOnes9 (s : State) : Result := driveB s onesLane

/-- `B_ONES_10` (R140). `B <- 0xFFFFFFFF`. -/
def execBOnes10 (s : State) : Result := driveB s onesLane

/-- `B_ONES_11` (R140). `B <- 0xFFFFFFFF`. -/
def execBOnes11 (s : State) : Result := driveB s onesLane

/-- `B_ONES_12` (R140). `B <- 0xFFFFFFFF`. -/
def execBOnes12 (s : State) : Result := driveB s onesLane

/-- `B_ONES_13` (R140). `B <- 0xFFFFFFFF`. -/
def execBOnes13 (s : State) : Result := driveB s onesLane

/-- `B_ONES_14` (R140). `B <- 0xFFFFFFFF`. -/
def execBOnes14 (s : State) : Result := driveB s onesLane

/-- `B_ONES_15` (R140). `B <- 0xFFFFFFFF`. -/
def execBOnes15 (s : State) : Result := driveB s onesLane

end Sys2Proof.Machine
end

