-- ==== Sys2Proof/Machine/CBus.lean ====
section
/-! DEFINITION. The C-bus fan-out (43_cbus.md R190 to R202): each enabled register receives the C latch. It never faults and
writes no flag. -/

namespace Sys2Proof.Machine

/-- `C_MAR` (R191). `MAR <- C`. -/
def execCMar (s : State) : Result := .next (s.setMar s.c)

/-- `C_MDR` (R192). `MDR <- C`. -/
def execCMdr (s : State) : Result := .next (s.setMdr s.c)

/-- `C_PC` (R193). `PC <- C`. -/
def execCPc (s : State) : Result := .next (s.setPc s.c)

/-- `C_SP` (R194). `SP <- C`. -/
def execCSp (s : State) : Result := .next (s.setSp s.c)

/-- `C_LV` (R195). `LV <- C`. -/
def execCLv (s : State) : Result := .next (s.setLv s.c)

/-- `C_CPP` (R196). `CPP <- C`. -/
def execCCpp (s : State) : Result := .next (s.setCpp s.c)

/-- `C_TOS` (R197). `TOS <- C`. -/
def execCTos (s : State) : Result := .next (s.setTos s.c)

/-- `C_OPC` (R198). `OPC <- C`. -/
def execCOpc (s : State) : Result := .next (s.setOpc s.c)

/-- `C_H` (R199). `H <- C`. -/
def execCH (s : State) : Result := .next (s.setH s.c)

end Sys2Proof.Machine
end

