-- ==== Sys2Proof/Machine/Jump.lean ====
section
/-! DEFINITION. What writes MPC: NextMPC at decode (40_decode.md R122) and the jump stage (45_jump_nextmpc.md R230 to R238).
Neither faults nor writes anything else. -/

namespace Sys2Proof.Machine

/-- OR a value into MPC (R230). -/
def orMpc (s : State) (v : MicroAddr) : Result := .next (s.setMpc (s.mpc ||| v))

/-- `JAMN` (R231). `MPC <- MPC OR (N << 8)`. -/
def execJamN (s : State) : Result := orMpc s (flagAtBit8 s.n)

/-- `JAMZ` (R232). `MPC <- MPC OR (Z << 8)`. -/
def execJamZ (s : State) : Result := orMpc s (flagAtBit8 s.z)

/-- `JMPC` (R233). `MPC <- MPC OR zext_9(MBR)`, MBR as this cycle's fetch left it. -/
def execJmpC (s : State) : Result := orMpc s (mbrIndex s)

/-- `NEXT` (R122). `MPC <- next`, at decode, before the B-bus is driven. -/
def execNextMpc (next : MicroAddr) (s : State) : Result := .next (s.setMpc next)

end Sys2Proof.Machine
end

