-- ==== Sys2Proof/Machine/MemOp.lean ====
section
/-! DEFINITION. The memory operations (44_memop.md R210 to R220). Each raises its bounds fault before it changes anything. -/

namespace Sys2Proof.Machine

/-- `MEM_FETCH` (R211). `MBR <- MemRead(PC, 1)`: PC as this cycle's fan-out left it; PC is not changed. -/
def execMemFetch (s : State) : Result := 
  match s.mem.read1 s.pc.toNat with
  | some v => .next (s.setMbr v)
  | none => raiseMemoryBounds .fetch s.pc.toNat

/-- `MEM_READ` (R212). `MDR <- MemRead(4*MAR, 4)`: MAR as this cycle's fan-out left it. -/
def execMemRead (s : State) : Result := 
  match s.mem.read4 (wordOffset s.mar) with
  | some v => .next (s.setMdr v)
  | none => raiseMemoryBounds .read (wordOffset s.mar)

/-- `MEM_WRITE` (R213). `MemWrite(4*MAR, 4, MDR)`: MAR and MDR as the fan-out and this cycle's read left them. -/
def execMemWrite (s : State) : Result := 
  match s.mem.write4 (wordOffset s.mar) s.mdr with
  | some m => .next (s.setMem m)
  | none => raiseMemoryBounds .write (wordOffset s.mar)

end Sys2Proof.Machine
end

