-- ==== Sys2Proof/Machine/Shifter.lean ====
section
/-! DEFINITION. The shifter and the C latch (42_alu_shifter_flags.md R171 to R176): it reads the ALU output and writes the C
latch. It never faults and writes no flag. -/

namespace Sys2Proof.Machine

/-- `C <- S` (R175). -/
def latchC (s : State) (v : Word) : Result := .next (s.setC v)

/-- `SH_NONE` (R172). `C <- A`. -/
def execShNone (s : State) : Result := latchC s s.aluOut

/-- `SH_SLL8` (R173). `C <- (A << 8) mod 2^32`. -/
def execShSll8 (s : State) : Result := latchC s (sll8 s.aluOut)

/-- `SH_SRL1` (R174). `C <- A >> 1 (logical)`. -/
def execShSrl1 (s : State) : Result := latchC s (srl1 s.aluOut)

/-- `SH_RSVD3` (R176). `C <- A`. -/
def execShRsvd3 (s : State) : Result := latchC s (shift3 s.aluOut)

end Sys2Proof.Machine
end

