-- ==== Sys2Proof/Machine/Dispatch.lean ====
section
/-! DEFINITION. One arm per row of the opcode table. -/

namespace Sys2Proof.Machine

def exec (i : Instr) (s : State) : Host.Outcome State Fault Refusal :=
  match i with
  | .bMdr => Sys2Proof.Machine.execBMdr s
  | .bPc => Sys2Proof.Machine.execBPc s
  | .bMbrS => Sys2Proof.Machine.execBMbrS s
  | .bMbrU => Sys2Proof.Machine.execBMbrU s
  | .bSp => Sys2Proof.Machine.execBSp s
  | .bLv => Sys2Proof.Machine.execBLv s
  | .bCpp => Sys2Proof.Machine.execBCpp s
  | .bTos => Sys2Proof.Machine.execBTos s
  | .bOpc => Sys2Proof.Machine.execBOpc s
  | .bOnes9 => Sys2Proof.Machine.execBOnes9 s
  | .bOnes10 => Sys2Proof.Machine.execBOnes10 s
  | .bOnes11 => Sys2Proof.Machine.execBOnes11 s
  | .bOnes12 => Sys2Proof.Machine.execBOnes12 s
  | .bOnes13 => Sys2Proof.Machine.execBOnes13 s
  | .bOnes14 => Sys2Proof.Machine.execBOnes14 s
  | .bOnes15 => Sys2Proof.Machine.execBOnes15 s
  | .memFetch => Sys2Proof.Machine.execMemFetch s
  | .memRead => Sys2Proof.Machine.execMemRead s
  | .memWrite => Sys2Proof.Machine.execMemWrite s
  | .cMar => Sys2Proof.Machine.execCMar s
  | .cMdr => Sys2Proof.Machine.execCMdr s
  | .cPc => Sys2Proof.Machine.execCPc s
  | .cSp => Sys2Proof.Machine.execCSp s
  | .cLv => Sys2Proof.Machine.execCLv s
  | .cCpp => Sys2Proof.Machine.execCCpp s
  | .cTos => Sys2Proof.Machine.execCTos s
  | .cOpc => Sys2Proof.Machine.execCOpc s
  | .cH => Sys2Proof.Machine.execCH s
  | .aluUndef0 => Sys2Proof.Machine.execAluUndef0 s
  | .aluUndef1 => Sys2Proof.Machine.execAluUndef1 s
  | .aluUndef2 => Sys2Proof.Machine.execAluUndef2 s
  | .aluUndef3 => Sys2Proof.Machine.execAluUndef3 s
  | .aluUndef4 => Sys2Proof.Machine.execAluUndef4 s
  | .aluUndef5 => Sys2Proof.Machine.execAluUndef5 s
  | .aluUndef6 => Sys2Proof.Machine.execAluUndef6 s
  | .aluUndef7 => Sys2Proof.Machine.execAluUndef7 s
  | .aluUndef8 => Sys2Proof.Machine.execAluUndef8 s
  | .aluUndef9 => Sys2Proof.Machine.execAluUndef9 s
  | .aluUndef10 => Sys2Proof.Machine.execAluUndef10 s
  | .aluUndef11 => Sys2Proof.Machine.execAluUndef11 s
  | .aluAnd => Sys2Proof.Machine.execAluAnd s
  | .aluUndef13 => Sys2Proof.Machine.execAluUndef13 s
  | .aluUndef14 => Sys2Proof.Machine.execAluUndef14 s
  | .aluUndef15 => Sys2Proof.Machine.execAluUndef15 s
  | .aluUndef16 => Sys2Proof.Machine.execAluUndef16 s
  | .aluOne => Sys2Proof.Machine.execAluOne s
  | .aluMinusOne => Sys2Proof.Machine.execAluMinusOne s
  | .aluUndef19 => Sys2Proof.Machine.execAluUndef19 s
  | .aluB => Sys2Proof.Machine.execAluB s
  | .aluUndef21 => Sys2Proof.Machine.execAluUndef21 s
  | .aluUndef22 => Sys2Proof.Machine.execAluUndef22 s
  | .aluUndef23 => Sys2Proof.Machine.execAluUndef23 s
  | .aluH => Sys2Proof.Machine.execAluH s
  | .aluUndef25 => Sys2Proof.Machine.execAluUndef25 s
  | .aluNotH => Sys2Proof.Machine.execAluNotH s
  | .aluUndef27 => Sys2Proof.Machine.execAluUndef27 s
  | .aluOr => Sys2Proof.Machine.execAluOr s
  | .aluUndef29 => Sys2Proof.Machine.execAluUndef29 s
  | .aluUndef30 => Sys2Proof.Machine.execAluUndef30 s
  | .aluUndef31 => Sys2Proof.Machine.execAluUndef31 s
  | .aluUndef32 => Sys2Proof.Machine.execAluUndef32 s
  | .aluUndef33 => Sys2Proof.Machine.execAluUndef33 s
  | .aluUndef34 => Sys2Proof.Machine.execAluUndef34 s
  | .aluUndef35 => Sys2Proof.Machine.execAluUndef35 s
  | .aluUndef36 => Sys2Proof.Machine.execAluUndef36 s
  | .aluUndef37 => Sys2Proof.Machine.execAluUndef37 s
  | .aluUndef38 => Sys2Proof.Machine.execAluUndef38 s
  | .aluUndef39 => Sys2Proof.Machine.execAluUndef39 s
  | .aluUndef40 => Sys2Proof.Machine.execAluUndef40 s
  | .aluUndef41 => Sys2Proof.Machine.execAluUndef41 s
  | .aluUndef42 => Sys2Proof.Machine.execAluUndef42 s
  | .aluUndef43 => Sys2Proof.Machine.execAluUndef43 s
  | .aluNotB => Sys2Proof.Machine.execAluNotB s
  | .aluUndef45 => Sys2Proof.Machine.execAluUndef45 s
  | .aluUndef46 => Sys2Proof.Machine.execAluUndef46 s
  | .aluUndef47 => Sys2Proof.Machine.execAluUndef47 s
  | .aluUndef48 => Sys2Proof.Machine.execAluUndef48 s
  | .aluUndef49 => Sys2Proof.Machine.execAluUndef49 s
  | .aluUndef50 => Sys2Proof.Machine.execAluUndef50 s
  | .aluUndef51 => Sys2Proof.Machine.execAluUndef51 s
  | .aluUndef52 => Sys2Proof.Machine.execAluUndef52 s
  | .aluBInc => Sys2Proof.Machine.execAluBInc s
  | .aluBDec => Sys2Proof.Machine.execAluBDec s
  | .aluUndef55 => Sys2Proof.Machine.execAluUndef55 s
  | .aluUndef56 => Sys2Proof.Machine.execAluUndef56 s
  | .aluHInc => Sys2Proof.Machine.execAluHInc s
  | .aluUndef58 => Sys2Proof.Machine.execAluUndef58 s
  | .aluNegH => Sys2Proof.Machine.execAluNegH s
  | .aluAdd => Sys2Proof.Machine.execAluAdd s
  | .aluAddInc => Sys2Proof.Machine.execAluAddInc s
  | .aluUndef62 => Sys2Proof.Machine.execAluUndef62 s
  | .aluBMinusH => Sys2Proof.Machine.execAluBMinusH s
  | .shNone => Sys2Proof.Machine.execShNone s
  | .shSll8 => Sys2Proof.Machine.execShSll8 s
  | .shSrl1 => Sys2Proof.Machine.execShSrl1 s
  | .shRsvd3 => Sys2Proof.Machine.execShRsvd3 s
  | .jamN => Sys2Proof.Machine.execJamN s
  | .jamZ => Sys2Proof.Machine.execJamZ s
  | .jmpC => Sys2Proof.Machine.execJmpC s
  | .nextMpc next => Sys2Proof.Machine.execNextMpc next s

end Sys2Proof.Machine
end

