-- ==== Sys2Proof/Machine/Cycle.lean ====
section
/-! DEFINITION. The cycle (46_cycle.md R250): latch, then the rows of the latched word, one after another; and the
stopped machine where a row faults (60_exceptions.md R272). -/

namespace Sys2Proof.Machine

/-- The word the next cycle latches: `CS[MPC]` (R120). -/
def fetchWord (s : State) : MicroWord := ControlStore.fetch s.cs s.mpc.toNat

/-- `MIR <- CS[MPC]`, the first action of a cycle (R120). -/
def latch (s : State) : State := s.setMir (fetchWord s)

/-- Perform rows in order, each on what the last one left; the first fault ends the cycle (R250, R219). -/
def runRows : List Instr → State → Result
  | [], s => .next s
  | i :: rest, s => andThen (exec i s) (runRows rest)

/-- The end of a cycle: the ALU's wire carries nothing between cycles (the model's own field, log 2). -/
def endCycle (s : State) : Result := .next (s.setAluOut 0)

/-- One cycle of a running machine (R250): every line sees the effect of every line before it. -/
def cycle (s : State) : Result := andThen (runRows (decode (latch s).mir) (latch s)) endCycle

/-- The state in which a list of rows stops: what the rows before the failing one left, with the fault taken (R219,
R272); nothing where no row faults. -/
def stoppedBy : List Instr → State → Option State
  | [], _ => none
  | i :: rest, s =>
    match exec i s with
    | .next t => stoppedBy rest t
    | .fault _ => some s.takeFault
    | .refused _ => none

/-- The FAULTED machine a faulting cycle leaves (R272); nothing where the cycle completes or is not performed. The
spec asks that no claim rest on its register contents. -/
def State.stopped (s : State) : Option State :=
  match s.status with
  | .running => stoppedBy (decode (latch s).mir) (latch s)
  | .faulted => none

end Sys2Proof.Machine
end

