-- ==== Sys2Proof/Machine/Step.lean ====
section
/-! DEFINITION. One step of the machine: one cycle, performed only while the status is RUNNING (10_state.md R38). -/

namespace Sys2Proof.Machine

/-- One step. A FAULTED machine performs no cycle (R38, R272). -/
def step (s : State) : Host.Outcome State Fault Refusal :=
  match s.status with
  | .running => cycle s
  | .faulted => .fault .machineFaulted

/-- The state with the `nbits`-bit word `w`, every bit above being 0, at the control-store index the next cycle
latches. It stands for the load of a program from outside the machine (R305; DESIGN CHOICE, safe: log 11). -/
def State.withFetchWord (s : State) (nbits w : Nat) : State :=
  s.setCs (ControlStore.place s.cs s.mpc.toNat (wordOfRecord (bytesOfNat Config.romRecordBytes (w % 2 ^ nbits))))

end Sys2Proof.Machine
end

