-- ==== Sys2Proof/Machine/Loader.lean ====
section
/-! DEFINITION. What the loader leaves in the two memories before the first cycle (70_reset_and_hazards.md R300, R305
to R308). The loader is outside the CORE (00_scope.md R3(a)); this is its contract, as a function from file contents.
A file that is missing or unreadable is `none`. -/

namespace Sys2Proof.Machine

/-- Why the loader ends without starting the machine (R270(1), R276, R308). UNVERIFIED for the two corner cases
(the spec's own decision D18), safe: log 14. -/
inductive LoadError where
  /-- The ROM file is missing or unreadable. -/
  | romMissing
  /-- The ROM file has fewer than 4096 bytes (R305). -/
  | romTruncated
  /-- The program image is missing or unreadable. -/
  | imageMissing
  /-- The program image has fewer than `4 + size` bytes (R308). -/
  | imageTruncated
  /-- `size < 20` (R308). -/
  | imageSizeBelowHeader
  /-- The image does not fit in main memory (R308). -/
  | imageTooLarge
  deriving DecidableEq, Repr

/-- The control store of `count` records from index `i` on, read one after another (R305). -/
def csOfRecords : Nat → Nat → List Byte → ControlStore
  | 0, _, _ => []
  | count + 1, i, file =>
    let w := wordOfRecord (file.take Config.romRecordBytes)
    let rest := csOfRecords count (i + 1) (file.drop Config.romRecordBytes)
    if w = Config.csFill then rest else (i, w) :: rest

/-- The control store of a ROM file (R305): exactly 512 records are consumed, and bytes beyond them are not read. -/
def loadRom (file : List Byte) : Except LoadError ControlStore :=
  if file.length < Config.csEntries * Config.romRecordBytes then .error .romTruncated
  else .ok (csOfRecords Config.csEntries 0 file)

/-- Bytes written one after another from an address up. -/
def Memory.setBytes (m : Memory) : Nat → List Byte → Memory
  | _, [] => m
  | a, v :: rest => (m.setByte a v).setBytes (a + 1) rest

/-- The size word of a program image: its first four bytes, little-endian (R306). -/
def imageSize (file : List Byte) : Nat := littleEndian (file.take 4)

/-- Main memory after the image is loaded over the initial memory `init`, the parameter `mem_init` (R306, R307): the
20 bytes after the size word at address 0, the remaining `size - 20` at `PROG_BASE`. The order of its four checks is the
model's
(DESIGN CHOICE, safe: log 14). -/
def loadImage (init : Memory) (file : List Byte) : Except LoadError Memory :=
  if file.length < 4 then .error .imageTruncated
  else if imageSize file < Config.hdrBytes then .error .imageSizeBelowHeader
  else if Config.progBase + (imageSize file - Config.hdrBytes) > Config.memBytes then .error .imageTooLarge
  else if file.length < 4 + imageSize file then .error .imageTruncated
  else .ok ((init.setBytes 0 ((file.drop 4).take Config.hdrBytes)).setBytes Config.progBase
    ((file.drop (4 + Config.hdrBytes)).take (imageSize file - Config.hdrBytes)))

/-- The reset sequence (R300): every cell at its reset value, then the loader fills the control store and main
memory; where the loader fails no cycle ever runs (R276). The spec does not say which load error is named where several
apply. DESIGN CHOICE, safe (log 14): a missing ROM file, then a missing image (also beside a short ROM file), before
either is read; then a short ROM file; then the errors of the image, in `loadImage`'s order. -/
def State.boot (init : Memory) (rom image : Option (List Byte)) : Except LoadError State :=
  match rom, image with
  | none, _ => .error .romMissing
  | some _, none => .error .imageMissing
  | some r, some f =>
    match loadRom r, loadImage init f with
    | .ok cs, .ok mem => .ok ((State.reset.setCs cs).setMem mem)
    | .error e, _ => .error e
    | .ok _, .error e => .error e

end Sys2Proof.Machine
end

