-- ==== Sys2Proof/Machine/Interface.lean ====
section
/-! DEFINITION. The rest of the block's interfaces (46_cycle.md R254, R258, 60_exceptions.md R283,
70_reset_and_hazards.md R331): the observation port, the step gate, and a run delimited from outside. -/

namespace Sys2Proof.Machine

/-- What the inspector reads between cycles: every cell of 10_state.md R20 and the status (R258(d), R283(a)). Its
print format is outside the CORE (log 17). -/
structure Observation where
  mar : Word
  mdr : Word
  pc : Word
  mbr : Byte
  sp : Word
  lv : Word
  cpp : Word
  tos : Word
  opc : Word
  h : Word
  mpc : MicroAddr
  n : Bool
  z : Bool
  b : Word
  c : Word
  mir : MicroWord
  status : RunStatus
  deriving DecidableEq, Repr

/-- The observation port: read-only, at a cycle boundary (R258(d), R283). The MIR seen is the one the last cycle
latched (R283(d)). -/
def State.observe (s : State) : Observation where
  mar := s.mar
  mdr := s.mdr
  pc := s.pc
  mbr := s.mbr
  sp := s.sp
  lv := s.lv
  cpp := s.cpp
  tos := s.tos
  opc := s.opc
  h := s.h
  mpc := s.mpc
  n := s.n
  z := s.z
  b := s.b
  c := s.c
  mir := s.mir
  status := s.status

/-- The step gate (R254, R258(c)): a cycle starts only when the inspector has returned; until then nothing changes. -/
def gatedStep (released : Bool) (s : State) : Result := if released then step s else .next s

/-- A run delimited by a predicate on the cycle-boundary state (R331, the parameter `STOP`, log 18): it ends at the
first boundary where the predicate holds, or after `k` cycles. -/
def runUntil (stop : State → Bool) : Nat → State → Result
  | 0, s => .next s
  | k + 1, s => if stop s then .next s else andThen (step s) (runUntil stop k)

end Sys2Proof.Machine
end

