-- ==== Sys2Proof/Machine/Pseudocode.lean ====
section
/-! DEFINITION. The cycle as the spec's own pseudocode writes it (46_cycle.md R250), on the field values and not on the
rows of the opcode table. The machine's step does not use this file: it is the clear transcription the step is
claimed equal to, and it names the state that stands between the fan-out and the memory operations. -/

namespace Sys2Proof.Machine

/-- `BSel(b)` (R94, R131 to R140). -/
def bSelect (b : BitVec 4) (s : State) : Word :=
  if b = 0 then s.mdr
  else if b = 1 then s.pc
  else if b = 2 then s.mbr.signExtend 32
  else if b = 3 then s.mbr.setWidth 32
  else if b = 4 then s.sp
  else if b = 5 then s.lv
  else if b = 6 then s.cpp
  else if b = 7 then s.tos
  else if b = 8 then s.opc
  else 0xFFFFFFFF#32

/-- `ALU(op, H, B)` (R97, R151 to R166). -/
def aluOf (op : BitVec 6) (h b : Word) : Word :=
  if op = 12 then h &&& b
  else if op = 17 then 1
  else if op = 18 then 0xFFFFFFFF#32
  else if op = 20 then b
  else if op = 24 then h
  else if op = 26 then ~~~ h
  else if op = 28 then h ||| b
  else if op = 44 then ~~~ b
  else if op = 53 then b + 1
  else if op = 54 then b - 1
  else if op = 57 then h + 1
  else if op = 59 then - h
  else if op = 60 then h + b
  else if op = 61 then h + b + 1
  else if op = 63 then b - h
  else 0

/-- `Shift(sh, A)` (R98, R172 to R174; R176 for the value 3, log 5). -/
def shiftOf (sh : BitVec 2) (a : Word) : Word :=
  if sh = 1 then a <<< 8 else if sh = 2 then a >>> 1 else a

/-- Sub-step 5: every enabled destination receives C (R190 to R199). -/
def fanOut (c : BitVec 9) (s : State) : State :=
  { s with
    mar := if c.getLsbD 0 then s.c else s.mar
    mdr := if c.getLsbD 1 then s.c else s.mdr
    pc := if c.getLsbD 2 then s.c else s.pc
    sp := if c.getLsbD 3 then s.c else s.sp
    lv := if c.getLsbD 4 then s.c else s.lv
    cpp := if c.getLsbD 5 then s.c else s.cpp
    tos := if c.getLsbD 6 then s.c else s.tos
    opc := if c.getLsbD 7 then s.c else s.opc
    h := if c.getLsbD 8 then s.c else s.h }

/-- The fields of the word the next cycle latches (R120, R121). -/
def nextMicro (s : State) : Micro := Micro.ofWord (ControlStore.fetch s.cs s.mpc.toNat)

/-- The ALU output `A` of the next cycle: H and the selected source as they are at the start of the cycle
(R130, R150). -/
def nextAlu (s : State) : Word := aluOf (nextMicro s).op s.h (bSelect (nextMicro s).b s)

/-- Sub-steps 1 to 5: latch, decode, B-bus, ALU with flags and shifter, fan-out. They cannot fail. -/
def beforeMemory (s : State) : State :=
  let m := nextMicro s
  let s := s.setMir (ControlStore.fetch s.cs s.mpc.toNat)
  let s := s.setMpc m.next
  let s := s.setB (bSelect m.b s)
  let a := aluOf m.op s.h s.b
  let s := s.setFlags (decide (a ≠ 0)) (decide (a = 0))
  let s := s.setC (shiftOf m.sh a)
  fanOut m.c s

/-- Sub-step 6, first line: `if mem[0] then MBR <- MemRead(PC, 1)` (R211). -/
def fetchIf (enabled : Bool) (s : State) : Result :=
  if enabled then
    if s.pc.toNat < Config.memBytes then .next (s.setMbr (s.mem.byteAt s.pc.toNat))
    else .fault (.memoryBounds .fetch s.pc.toNat)
  else .next s

/-- Sub-step 6, second line: `if mem[1] then MDR <- MemRead(4*MAR, 4)` (R212). -/
def readIf (enabled : Bool) (s : State) : Result :=
  if enabled then
    if 4 * s.mar.toNat + 3 < Config.memBytes then .next (s.setMdr (s.mem.wordAt (4 * s.mar.toNat)))
    else .fault (.memoryBounds .read (4 * s.mar.toNat))
  else .next s

/-- Sub-step 6, third line: `if mem[2] then MemWrite(4*MAR, 4, MDR)` (R213). -/
def writeIf (enabled : Bool) (s : State) : Result :=
  if enabled then
    if 4 * s.mar.toNat + 3 < Config.memBytes then .next (s.setMem (s.mem.setWord (4 * s.mar.toNat) s.mdr))
    else .fault (.memoryBounds .write (4 * s.mar.toNat))
  else .next s

/-- Sub-step 7: OR the enabled flags and MBR into MPC, which holds NextMPC (R231 to R234). -/
def jumpStage (j : BitVec 3) (s : State) : State :=
  s.setMpc (s.mpc ||| (if j.getLsbD 0 && s.n then 0x100#9 else 0) ||| (if j.getLsbD 1 && s.z then 0x100#9 else 0) |||
    (if j.getLsbD 2 then s.mbr.setWidth 9 else 0))

/-- `Cycle()` (R250): the order of the memory operations is R214's. -/
def pseudocodeCycle (s : State) : Result :=
  let m := nextMicro s
  andThen (fetchIf (m.mem.getLsbD 0) (beforeMemory s)) fun s =>
    andThen (readIf (m.mem.getLsbD 1) s) fun s =>
      andThen (writeIf (m.mem.getLsbD 2) s) fun s =>
        .next (jumpStage m.j s)

end Sys2Proof.Machine
end

