-- ==== Sys2Proof/Safety.lean ====
section
/-! DEFINITION. What a safe run is, the invariant of the state, and what "unchanged" means, in the terms the
statements use. -/

namespace Sys2Proof.Machine

/-- Both memories are in their canonical form, the machine is RUNNING, and the ALU's wire carries nothing: what every
state at a cycle boundary of a running machine is (R20, R38, R43, R63). -/
def State.Canonical (s : State) : Prop :=
  Memory.wf s.mem = true ∧ ControlStore.wf s.cs = true ∧ s.status = .running ∧ s.aluOut = 0

/-- Every memory operation the next cycle enables is in bounds, at PC and MAR as its fan-out leaves them (R330). -/
def CycleInBounds (s : State) : Prop :=
  ((nextMicro s).mem.getLsbD 0 = true → (beforeMemory s).pc.toNat < Config.memBytes) ∧
  ((nextMicro s).mem.getLsbD 1 = true ∨ (nextMicro s).mem.getLsbD 2 = true →
    wordOffset (beforeMemory s).mar + 3 < Config.memBytes)

/-- The next step is a whole cycle. -/
def SafeState (s : State) : Prop := s.status = .running ∧ CycleInBounds s

/-- A run of `k` cycles that reaches a cycle boundary without a fault (R331). -/
def SafeRun (k : Nat) (s : State) : Prop := ∃ t, Host.Core.run Sys2Proof.core k s = .next t

/-- A state with an ALU output: on the wire, and in the flags as R170 gives them. -/
def State.afterAlu (s : State) (a : Word) : State :=
  { s with aluOut := a, n := decide (a ≠ 0), z := decide (a = 0) }

/-- The nine registers the fan-out can write, unchanged. -/
def SameDestinations (s t : State) : Prop :=
  t.mar = s.mar ∧ t.mdr = s.mdr ∧ t.pc = s.pc ∧ t.sp = s.sp ∧ t.lv = s.lv ∧ t.cpp = s.cpp ∧ t.tos = s.tos ∧
    t.opc = s.opc ∧ t.h = s.h

/-- Both flags unchanged. -/
def SameFlags (s t : State) : Prop := t.n = s.n ∧ t.z = s.z

/-- MIR, the control store and the status unchanged. -/
def SameControl (s t : State) : Prop := t.mir = s.mir ∧ t.cs = s.cs ∧ t.status = s.status

/-- Every byte of main memory reads as before. -/
def SameBytes (s t : State) : Prop := ∀ a, t.mem.byteAt a = s.mem.byteAt a

end Sys2Proof.Machine
end

