-- ==== Sys2Proof/Certificates/Slice0/Obligations.lean ====
section
/-! DEFINITION. What is claimed of the model, from the numbered rules of spec/. Each statement's docstring is its title;
its text, basis and citations stand in OBLIGATIONS.json. -/

open Sys2Proof Sys2Proof.Machine

/-- Words of the spec decode to the rows their fields select (95_test_vectors.md T1, T2, T18 to T21, R91, R121). -/
def Obligations.DecodesWrittenWords : Prop :=
  decode 0x0523F0005#36 = [.nextMpc 0x00A, .bLv, .aluBMinusH, .shNone, .jamZ] ∧
  decode 0x804350211#36 = [.nextMpc 0x100, .bPc, .aluBInc, .shNone, .cPc, .memFetch, .jmpC] ∧
  decode 0xA5A5A5A5A#36 = [.nextMpc 0x14B, .bOnes10, .aluNotH, .shSll8, .cPc, .cLv, .cCpp, .cOpc, .memFetch,
    .memWrite, .jamZ] ∧
  decode 0x5A5A5A5A5#36 = [.nextMpc 0x0B4, .bLv, .aluUndef37, .shSrl1, .cMar, .cMdr, .cSp, .cTos, .cH, .memRead,
    .jamN, .jmpC] ∧
  decode 0x000000000#36 = [.nextMpc 0x000, .bMdr, .aluUndef0, .shNone] ∧
  decode 0xFFFFFFFFF#36 = [.nextMpc 0x1FF, .bOnes15, .aluBMinusH, .shRsvd3, .cMar, .cMdr, .cPc, .cSp, .cLv, .cCpp,
    .cTos, .cOpc, .cH, .memFetch, .memRead, .memWrite, .jamN, .jamZ, .jmpC]

/-- Composition and decoding of the seven fields are inverse to each other (R92, R91, R121). -/
def Obligations.FieldsAndWordsAreInBijection : Prop :=
  (∀ w : MicroWord, (Micro.ofWord w).toWord = w) ∧
  (∀ m : Micro, Micro.ofWord m.toWord = m) ∧
  ∀ m : Micro, m.toWord.toNat = m.b.toNat + 16 * m.mem.toNat + 128 * m.c.toNat + 65536 * m.op.toNat +
    4194304 * m.sh.toNat + 16777216 * m.j.toNat + 134217728 * m.next.toNat

/-- Decoding the encoding of a well-formed list of rows gives it back, and conversely (R92, R102, R110). -/
def Obligations.DecodeAndEncodeAgree : Prop :=
  (∀ rows : List Instr, wellFormed rows = true → decode (encode rows) = rows) ∧
  ∀ w : MicroWord, wellFormed (decode w) = true ∧ encode (decode w) = w

/-- A row applies to a word exactly when the word under the row's mask is the row's match (R110, 30_encoding.md 5). -/
def Obligations.RowAppliesExactlyByMaskAndMatch : Prop :=
  (∀ (w : MicroWord) (i : Instr), (∀ next, i ≠ .nextMpc next) →
    (i ∈ decode w ↔ w &&& rowMask i = rowMatch i)) ∧
  ∀ (w : MicroWord) (next : MicroAddr), .nextMpc next ∈ decode w ↔ next = w.extractLsb' 27 9

/-- A ROM record decodes as its little-endian value modulo 2^36 (R103, R305, 92_eei_decisions.md D3). -/
def Obligations.RecordsDecodeByTheirLowBits : Prop :=
  (∀ record : List Byte, record.length = 8 →
    decodeRecord record = .ok (decode (BitVec.ofNat 36 (littleEndian record % 2 ^ 36)))) ∧
  (∀ record : List Byte, record.length ≠ 8 → decodeRecord record = .error (.notARecord record.length)) ∧
  ∀ w : MicroWord, decodeRecord (recordOfWord w) = .ok (decode w)

/-- B selectors 0, 1 and 4 to 8 drive MDR, PC, SP, LV, CPP, TOS and OPC as at the start of the cycle (R131, R132, R135, R136, R137, R138, R139). -/
def Obligations.BusSelectorsDriveTheirRegister : Prop :=
  (∀ s : State,
    exec .bMdr s = .next { s with b := s.mdr } ∧
    exec .bPc s = .next { s with b := s.pc } ∧
    exec .bSp s = .next { s with b := s.sp } ∧
    exec .bLv s = .next { s with b := s.lv } ∧
    exec .bCpp s = .next { s with b := s.cpp } ∧
    exec .bTos s = .next { s with b := s.tos } ∧
    exec .bOpc s = .next { s with b := s.opc }) ∧
  ∀ s t : State, step s = .next t →
    ((nextMicro s).b = 0 → t.b = s.mdr) ∧
    ((nextMicro s).b = 1 → t.b = s.pc) ∧
    ((nextMicro s).b = 4 → t.b = s.sp) ∧
    ((nextMicro s).b = 5 → t.b = s.lv) ∧
    ((nextMicro s).b = 6 → t.b = s.cpp) ∧
    ((nextMicro s).b = 7 → t.b = s.tos) ∧
    ((nextMicro s).b = 8 → t.b = s.opc)

/-- B selector 2 sign-extends MBR, selector 3 zero-extends it (R133, R134). -/
def Obligations.BusSelectorsWidenMbr : Prop :=
  (∀ s : State,
    exec .bMbrS s = .next { s with b := (if 0x80 ≤ s.mbr.toNat then BitVec.ofNat 32 (s.mbr.toNat + 0xFFFFFF00)
      else BitVec.ofNat 32 s.mbr.toNat) } ∧
    exec .bMbrU s = .next { s with b := BitVec.ofNat 32 s.mbr.toNat }) ∧
  ∀ s t : State, step s = .next t →
    ((nextMicro s).b = 2 → 0x80 ≤ s.mbr.toNat → t.b = BitVec.ofNat 32 (s.mbr.toNat + 0xFFFFFF00)) ∧
    ((nextMicro s).b = 2 → s.mbr.toNat < 0x80 → t.b = BitVec.ofNat 32 s.mbr.toNat) ∧
    ((nextMicro s).b = 3 → t.b = BitVec.ofNat 32 s.mbr.toNat)

/-- B selectors 9 to 15 drive 0xFFFFFFFF (R140). -/
def Obligations.UndefinedBusSelectorsDriveAllOnes : Prop :=
  (∀ s : State,
    exec .bOnes9 s = .next { s with b := 0xFFFFFFFF#32 } ∧
    exec .bOnes10 s = .next { s with b := 0xFFFFFFFF#32 } ∧
    exec .bOnes11 s = .next { s with b := 0xFFFFFFFF#32 } ∧
    exec .bOnes12 s = .next { s with b := 0xFFFFFFFF#32 } ∧
    exec .bOnes13 s = .next { s with b := 0xFFFFFFFF#32 } ∧
    exec .bOnes14 s = .next { s with b := 0xFFFFFFFF#32 } ∧
    exec .bOnes15 s = .next { s with b := 0xFFFFFFFF#32 }) ∧
  ∀ s t : State, step s = .next t → 9 ≤ (nextMicro s).b.toNat → t.b = 0xFFFFFFFF#32

/-- The ALU rows AND, H, NOT H, OR and NOT B put their bitwise function on the wire and set both flags (R151, R155, R156, R157, R158). -/
def Obligations.LogicalOperationsYieldTheirValue : Prop :=
  (∀ s : State,
    exec .aluAnd s = .next (s.afterAlu (s.h &&& s.b)) ∧
    exec .aluH s = .next (s.afterAlu s.h) ∧
    exec .aluNotH s = .next (s.afterAlu (BitVec.ofNat 32 (0xFFFFFFFF - s.h.toNat))) ∧
    exec .aluOr s = .next (s.afterAlu (s.h ||| s.b)) ∧
    exec .aluNotB s = .next (s.afterAlu (BitVec.ofNat 32 (0xFFFFFFFF - s.b.toNat)))) ∧
  rowOfOp 12 = .aluAnd ∧
  rowOfOp 24 = .aluH ∧
  rowOfOp 26 = .aluNotH ∧
  rowOfOp 28 = .aluOr ∧
  rowOfOp 44 = .aluNotB ∧
  ∀ s t : State, step s = .next t → (nextMicro s).sh = 0 →
    ((nextMicro s).op = 12 → t.c = s.h &&& t.b) ∧
    ((nextMicro s).op = 24 → t.c = s.h) ∧
    ((nextMicro s).op = 26 → t.c = BitVec.ofNat 32 (0xFFFFFFFF - s.h.toNat)) ∧
    ((nextMicro s).op = 28 → t.c = s.h ||| t.b) ∧
    ((nextMicro s).op = 44 → t.c = BitVec.ofNat 32 (0xFFFFFFFF - t.b.toNat))

/-- The ALU rows B+1, B-1, H+1, -H, H+B, H+B+1 and B-H are the integer results reduced modulo 2^32 (R159, R160, R161, R162, R163, R164, R165). -/
def Obligations.ArithmeticIsModulo2Pow32 : Prop :=
  (∀ s : State,
    exec .aluBInc s = .next (s.afterAlu (BitVec.ofNat 32 ((s.b.toNat + 1) % 2 ^ 32))) ∧
    exec .aluBDec s = .next (s.afterAlu (BitVec.ofInt 32 ((s.b.toNat : Int) - 1))) ∧
    exec .aluHInc s = .next (s.afterAlu (BitVec.ofNat 32 ((s.h.toNat + 1) % 2 ^ 32))) ∧
    exec .aluNegH s = .next (s.afterAlu (BitVec.ofInt 32 (0 - (s.h.toNat : Int)))) ∧
    exec .aluAdd s = .next (s.afterAlu (BitVec.ofNat 32 ((s.h.toNat + s.b.toNat) % 2 ^ 32))) ∧
    exec .aluAddInc s = .next (s.afterAlu (BitVec.ofNat 32 ((s.h.toNat + s.b.toNat + 1) % 2 ^ 32))) ∧
    exec .aluBMinusH s = .next (s.afterAlu (BitVec.ofInt 32 ((s.b.toNat : Int) - (s.h.toNat : Int))))) ∧
  rowOfOp 53 = .aluBInc ∧
  rowOfOp 54 = .aluBDec ∧
  rowOfOp 57 = .aluHInc ∧
  rowOfOp 59 = .aluNegH ∧
  rowOfOp 60 = .aluAdd ∧
  rowOfOp 61 = .aluAddInc ∧
  rowOfOp 63 = .aluBMinusH ∧
  ∀ s t : State, step s = .next t → (nextMicro s).sh = 0 →
    ((nextMicro s).op = 53 → t.c = BitVec.ofNat 32 ((t.b.toNat + 1) % 2 ^ 32)) ∧
    ((nextMicro s).op = 54 → t.c = BitVec.ofInt 32 ((t.b.toNat : Int) - 1)) ∧
    ((nextMicro s).op = 57 → t.c = BitVec.ofNat 32 ((s.h.toNat + 1) % 2 ^ 32)) ∧
    ((nextMicro s).op = 59 → t.c = BitVec.ofInt 32 (0 - (s.h.toNat : Int))) ∧
    ((nextMicro s).op = 60 → t.c = BitVec.ofNat 32 ((s.h.toNat + t.b.toNat) % 2 ^ 32)) ∧
    ((nextMicro s).op = 61 → t.c = BitVec.ofNat 32 ((s.h.toNat + t.b.toNat + 1) % 2 ^ 32)) ∧
    ((nextMicro s).op = 63 → t.c = BitVec.ofInt 32 ((t.b.toNat : Int) - (s.h.toNat : Int)) ∧
      ((nextMicro s).c.getLsbD 6 = true → t.tos = BitVec.ofInt 32 ((t.b.toNat : Int) - (s.h.toNat : Int))))

/-- OP 17 yields 1 and OP 18 yields 0xFFFFFFFF, whatever H and B are (R152, R153). -/
def Obligations.ConstantOperationsIgnoreTheirOperands : Prop :=
  (∀ s : State,
    exec .aluOne s = .next (s.afterAlu 0x00000001#32) ∧
    exec .aluMinusOne s = .next (s.afterAlu 0xFFFFFFFF#32)) ∧
  rowOfOp 17 = .aluOne ∧
  rowOfOp 18 = .aluMinusOne ∧
  (∀ s t : State, step s = .next t → (nextMicro s).op = 17 → t.z = false ∧ t.n = true ∧
    ((nextMicro s).sh = 0 → t.c = 1) ∧ ((nextMicro s).sh = 1 → t.c = 0x100) ∧ ((nextMicro s).sh = 2 → t.c = 0)) ∧
  ∀ s t : State, step s = .next t → (nextMicro s).op = 18 → t.z = false ∧ t.n = true ∧
    ((nextMicro s).sh = 0 → t.c = 0xFFFFFFFF) ∧ ((nextMicro s).sh = 1 → t.c = 0xFFFFFF00) ∧
    ((nextMicro s).sh = 2 → t.c = 0x7FFFFFFF)

/-- OP 20 with Shift 0 copies the B-bus to every destination the C field enables (R154, R190, R216). -/
def Obligations.MoveCopiesTheBusToEveryEnabledRegister : Prop :=
  rowOfOp 20 = .aluB ∧
  (∀ s : State, exec .aluB s = .next (s.afterAlu s.b)) ∧
  ∀ s t : State, step s = .next t → (nextMicro s).op = 20 → (nextMicro s).sh = 0 →
    ((nextMicro s).c.getLsbD 0 = true → t.mar = t.b) ∧
    ((nextMicro s).c.getLsbD 2 = true → t.pc = t.b) ∧
    ((nextMicro s).c.getLsbD 3 = true → t.sp = t.b) ∧
    ((nextMicro s).c.getLsbD 4 = true → t.lv = t.b) ∧
    ((nextMicro s).c.getLsbD 5 = true → t.cpp = t.b) ∧
    ((nextMicro s).c.getLsbD 6 = true → t.tos = t.b) ∧
    ((nextMicro s).c.getLsbD 7 = true → t.opc = t.b) ∧
    ((nextMicro s).c.getLsbD 8 = true → t.h = t.b) ∧
    ((nextMicro s).c.getLsbD 1 = true → (nextMicro s).mem.getLsbD 1 = false → t.mdr = t.b)

/-- The 49 undefined OP values yield 0 with Z = 1 and N = 0 (R166). -/
def Obligations.UndefinedOperationsYieldZero : Prop :=
  (∀ i ∈ ([
      .aluUndef0, .aluUndef1, .aluUndef2, .aluUndef3, .aluUndef4, .aluUndef5, .aluUndef6, .aluUndef7,
      .aluUndef8, .aluUndef9, .aluUndef10, .aluUndef11, .aluUndef13, .aluUndef14, .aluUndef15, .aluUndef16,
      .aluUndef19, .aluUndef21, .aluUndef22, .aluUndef23, .aluUndef25, .aluUndef27, .aluUndef29, .aluUndef30,
      .aluUndef31, .aluUndef32, .aluUndef33, .aluUndef34, .aluUndef35, .aluUndef36, .aluUndef37, .aluUndef38,
      .aluUndef39, .aluUndef40, .aluUndef41, .aluUndef42, .aluUndef43, .aluUndef45, .aluUndef46, .aluUndef47,
      .aluUndef48, .aluUndef49, .aluUndef50, .aluUndef51, .aluUndef52, .aluUndef55, .aluUndef56, .aluUndef58,
      .aluUndef62] : List Instr),
    ∀ s : State, exec i s = .next { s with aluOut := 0, n := false, z := true }) ∧
  (∀ op : BitVec 6, op ∉ ([12, 17, 18, 20, 24, 26, 28, 44, 53, 54, 57, 59, 60, 61, 63] : List (BitVec 6)) →
    (∀ s : State, exec (rowOfOp op) s = .next { s with aluOut := 0, n := false, z := true }) ∧
    ∀ s t : State, step s = .next t → (nextMicro s).op = op → t.z = true ∧ t.n = false ∧ t.c = 0)

/-- Every completed cycle sets Z = 1, N = 0 when the ALU output is 0 and Z = 0, N = 1 otherwise (R170). -/
def Obligations.FlagsComeFromTheUnshiftedAluOutput : Prop :=
  ∀ s t : State, step s = .next t →
    (aluOf (nextMicro s).op s.h (bSelect (nextMicro s).b s) = 0 → t.z = true ∧ t.n = false) ∧
    (aluOf (nextMicro s).op s.h (bSelect (nextMicro s).b s) ≠ 0 → t.z = false ∧ t.n = true)

/-- Shift 0 passes, Shift 1 is left by 8 modulo 2^32, Shift 2 is a logical right by 1 (R172, R173, R174). -/
def Obligations.ShifterPassesShiftsLeftEightOrRightOne : Prop :=
  (∀ s : State,
    exec .shNone s = .next { s with c := s.aluOut } ∧
    exec .shSll8 s = .next { s with c := BitVec.ofNat 32 (s.aluOut.toNat * 256 % 2 ^ 32) } ∧
    exec .shSrl1 s = .next { s with c := BitVec.ofNat 32 (s.aluOut.toNat / 2) }) ∧
  rowOfShift 0 = .shNone ∧ rowOfShift 1 = .shSll8 ∧ rowOfShift 2 = .shSrl1 ∧
  ∀ s t : State, step s = .next t →
    ((nextMicro s).sh = 0 → t.c = nextAlu s) ∧
    ((nextMicro s).sh = 1 → t.c = BitVec.ofNat 32 ((nextAlu s).toNat * 256 % 2 ^ 32)) ∧
    ((nextMicro s).sh = 2 → t.c = BitVec.ofNat 32 ((nextAlu s).toNat / 2))

/-- Shift 3 is pass-through (the spec's own decision D4, log 5) (R176, 92_eei_decisions.md D4). -/
def Obligations.ReservedShiftPassesThrough : Prop :=
  rowOfShift 3 = .shRsvd3 ∧
  (∀ s : State, exec .shRsvd3 s = .next { s with c := s.aluOut }) ∧
  ∀ s t : State, step s = .next t → (nextMicro s).sh = 3 → t.c = nextAlu s

/-- Each C row writes the C latch to its register and nothing else, and applies when its bit is 1 (R194, R195, R196, R197, R198). -/
def Obligations.FanOutRowsWriteTheirRegister : Prop :=
  (∀ s : State,
    exec .cMar s = .next { s with mar := s.c } ∧
    exec .cMdr s = .next { s with mdr := s.c } ∧
    exec .cPc s = .next { s with pc := s.c } ∧
    exec .cSp s = .next { s with sp := s.c } ∧
    exec .cLv s = .next { s with lv := s.c } ∧
    exec .cCpp s = .next { s with cpp := s.c } ∧
    exec .cTos s = .next { s with tos := s.c } ∧
    exec .cOpc s = .next { s with opc := s.c } ∧
    exec .cH s = .next { s with h := s.c }) ∧
  ∀ w : MicroWord,
    (.cMar ∈ decode w ↔ w.getLsbD 7 = true) ∧
    (.cMdr ∈ decode w ↔ w.getLsbD 8 = true) ∧
    (.cPc ∈ decode w ↔ w.getLsbD 9 = true) ∧
    (.cSp ∈ decode w ↔ w.getLsbD 10 = true) ∧
    (.cLv ∈ decode w ↔ w.getLsbD 11 = true) ∧
    (.cCpp ∈ decode w ↔ w.getLsbD 12 = true) ∧
    (.cTos ∈ decode w ↔ w.getLsbD 13 = true) ∧
    (.cOpc ∈ decode w ↔ w.getLsbD 14 = true) ∧
    (.cH ∈ decode w ↔ w.getLsbD 15 = true)

/-- After a cycle each register with its C bit set holds C, every other keeps its value; MDR so only where no memory read is enabled (R200, R201, 92_eei_decisions.md D4, notes/assumptions/5.md). -/
def Obligations.EnabledRegistersReceiveTheResult : Prop :=
  ∀ s t : State, step s = .next t →
    t.c = shiftOf (nextMicro s).sh (nextAlu s) ∧ t.z = decide (nextAlu s = 0) ∧ t.n = decide (nextAlu s ≠ 0) ∧
    t.mar = (if (nextMicro s).c.getLsbD 0 then t.c else s.mar) ∧
    t.pc = (if (nextMicro s).c.getLsbD 2 then t.c else s.pc) ∧
    t.sp = (if (nextMicro s).c.getLsbD 3 then t.c else s.sp) ∧
    t.lv = (if (nextMicro s).c.getLsbD 4 then t.c else s.lv) ∧
    t.cpp = (if (nextMicro s).c.getLsbD 5 then t.c else s.cpp) ∧
    t.tos = (if (nextMicro s).c.getLsbD 6 then t.c else s.tos) ∧
    t.opc = (if (nextMicro s).c.getLsbD 7 then t.c else s.opc) ∧
    t.h = (if (nextMicro s).c.getLsbD 8 then t.c else s.h) ∧
    ((nextMicro s).mem.getLsbD 1 = false → t.mdr = if (nextMicro s).c.getLsbD 1 then t.c else s.mdr)

/-- MEM_FETCH loads MBR with the byte at PC, and faults when PC is outside main memory (R211, R66, 92_eei_decisions.md D7). -/
def Obligations.FetchReadsTheByteAtPcOrFaults : Prop :=
  (∀ s : State, s.pc.toNat < 100000000 → exec .memFetch s = .next { s with mbr := s.mem.byteAt s.pc.toNat }) ∧
  ∀ s : State, 100000000 ≤ s.pc.toNat → exec .memFetch s = .fault (.memoryBounds .fetch s.pc.toNat)

/-- MEM_READ loads MDR with the little-endian word at 4*MAR, and faults out of bounds (R212, R64, R67, R68, 92_eei_decisions.md D6). -/
def Obligations.ReadAssemblesTheWordAtMarOrFaults : Prop :=
  (∀ s : State, 4 * s.mar.toNat + 3 < 100000000 →
    exec .memRead s = .next { s with mdr := BitVec.ofNat 32 ((s.mem.byteAt (4 * s.mar.toNat)).toNat +
      256 * (s.mem.byteAt (4 * s.mar.toNat + 1)).toNat + 65536 * (s.mem.byteAt (4 * s.mar.toNat + 2)).toNat +
      16777216 * (s.mem.byteAt (4 * s.mar.toNat + 3)).toNat) }) ∧
  ∀ s : State, 100000000 ≤ 4 * s.mar.toNat + 3 →
    exec .memRead s = .fault (.memoryBounds .read (4 * s.mar.toNat))

/-- MEM_WRITE stores the four bytes of MDR at 4*MAR and no other byte, and faults out of bounds (R213, R64, R67, R69, 92_eei_decisions.md D6). -/
def Obligations.WriteStoresMdrAtMarOrFaults : Prop :=
  (∀ s : State, 4 * s.mar.toNat + 3 < 100000000 →
    ∃ t, exec .memWrite s = .next t ∧ t = { s with mem := t.mem } ∧
      (∀ k, k < 4 → t.mem.byteAt (wordOffset s.mar + k) = s.mdr.extractLsb' (8 * k) 8) ∧
      ∀ a, a < wordOffset s.mar ∨ wordOffset s.mar + 4 ≤ a → t.mem.byteAt a = s.mem.byteAt a) ∧
  (∀ s : State, 100000000 ≤ 4 * s.mar.toNat + 3 →
    exec .memWrite s = .fault (.memoryBounds .write (4 * s.mar.toNat))) ∧
  ∀ s : State, wordOffset s.mar = 4 * s.mar.toNat

/-- The byte at the lowest address of a word holds bits 7..0, the highest bits 31..24 (R65). -/
def Obligations.WordsAreLittleEndian : Prop :=
  (∀ (m : Memory) (a : Nat) (v : Word) (k : Nat), k < 4 →
    (m.setWord a v).byteAt (a + k) = v.extractLsb' (8 * k) 8) ∧
  (∀ (m : Memory) (a k : Nat), k < 4 → (m.wordAt a).extractLsb' (8 * k) 8 = m.byteAt (a + k)) ∧
  ∀ m : Memory, ([0x40, 0x41, 0x42, 0x43].map fun a => (m.setWord (wordOffset 0x10) 0xDEADBEEF).byteAt a) =
    [0xEF, 0xBE, 0xAD, 0xDE]

/-- A word written in bounds reads back, whole and byte by byte (R70, R74). -/
def Obligations.WrittenWordReadsBack : Prop :=
  ∀ (m : Memory) (w v : Word), 4 * w.toNat + 3 < 100000000 →
    ∃ m', m.write4 (wordOffset w) v = some m' ∧ m'.read4 (wordOffset w) = some v ∧
      ∀ k, k < 4 → m'.read1 (wordOffset w + k) = some (v.extractLsb' (8 * k) 8)

/-- A cycle with Mem = 0 leaves MBR, MDR (but for the fan-out) and main memory alone (R218). -/
def Obligations.NoMemoryBitTouchesNothing : Prop :=
  (∀ s t : State, step s = .next t → (nextMicro s).mem = 0 →
    t.mem = s.mem ∧ t.mbr = s.mbr ∧ t.mdr = if (nextMicro s).c.getLsbD 1 then t.c else s.mdr) ∧
  ∀ s : State, s.status = .running → (nextMicro s).mem = 0 → ∃ t, step s = .next t

/-- A cycle with read and write loads MDR from the word and leaves main memory unchanged (R215). -/
def Obligations.ReadAndWriteInOneCycleReload : Prop :=
  ∀ s t : State, step s = .next t → (nextMicro s).mem.getLsbD 1 = true → (nextMicro s).mem.getLsbD 2 = true →
    t.mdr = s.mem.wordAt (wordOffset t.mar) ∧ SameBytes s t

/-- With C bit 1 set, a read in the cycle wins MDR and a write without a read stores the new MDR (R216, R324, R210). -/
def Obligations.ReadOverridesFanOutAndWriteStoresIt : Prop :=
  (∀ s t : State, step s = .next t → (nextMicro s).c.getLsbD 1 = true → (nextMicro s).mem.getLsbD 1 = true →
    t.mdr = s.mem.wordAt (wordOffset t.mar)) ∧
  ∀ s t : State, step s = .next t → (nextMicro s).c.getLsbD 1 = true → (nextMicro s).mem.getLsbD 2 = true → (nextMicro s).mem.getLsbD 1 = false →
    t.mdr = t.c ∧ t.mem.wordAt (wordOffset t.mar) = t.c

/-- A fetch and a write of the same byte in one cycle: the fetch gets the old byte, memory the new (R217, R214, 92_eei_decisions.md D5). -/
def Obligations.FetchSeesTheByteBeforeTheWrite : Prop :=
  ∀ s t : State, step s = .next t → (nextMicro s).mem.getLsbD 0 = true → (nextMicro s).mem.getLsbD 2 = true → (nextMicro s).mem.getLsbD 1 = false →
    t.mbr = s.mem.byteAt t.pc.toNat ∧
    ∀ k, k < 4 → t.pc.toNat = wordOffset t.mar + k → t.mem.byteAt t.pc.toNat = t.mdr.extractLsb' (8 * k) 8

/-- A byte stored in one cycle is the byte a fetch of the next cycle returns (D5, log 6, where the next cycle writes it too) (R80, R326, R77, 92_eei_decisions.md D5, notes/assumptions/6.md). -/
def Obligations.StoreIsVisibleToTheNextFetch : Prop :=
  ∀ s t u : State, step s = .next t → (nextMicro s).mem.getLsbD 2 = true → step t = .next u →
    (nextMicro t).mem.getLsbD 0 = true →
    ∀ k, k < 4 → u.pc.toNat = wordOffset t.mar + k → u.mbr = t.mdr.extractLsb' (8 * k) 8

/-- Over any run a byte keeps its value as long as no cycle writes the word that holds it (R77, R63, R44). -/
def Obligations.BytesPersistUntilTheirWordIsWritten : Prop :=
  ∀ (k : Nat) (s t : State) (a : Nat), Host.Core.run Sys2Proof.core k s = .next t →
    (∀ (j : Nat) (u : State), j < k → Host.Core.run Sys2Proof.core j s = .next u →
      (nextMicro u).mem.getLsbD 2 = true →
      a < wordOffset (beforeMemory u).mar ∨ wordOffset (beforeMemory u).mar + 4 ≤ a) →
    t.mem.byteAt a = s.mem.byteAt a

/-- The next MPC is NextMPC OR the enabled flags at bit 8 OR the enabled MBR (R231, R232, R233, R234, R237). -/
def Obligations.JumpStageOrsFlagsAndMbrIntoNext : Prop :=
  (∀ s : State,
    exec .jamN s = .next { s with mpc := s.mpc ||| (if s.n then 0x100 else 0) } ∧
    exec .jamZ s = .next { s with mpc := s.mpc ||| (if s.z then 0x100 else 0) } ∧
    exec .jmpC s = .next { s with mpc := s.mpc ||| BitVec.ofNat 9 s.mbr.toNat }) ∧
  ∀ s t : State, step s = .next t →
    t.mpc = (nextMicro s).next ||| (if (nextMicro s).j.getLsbD 0 && t.n then 0x100 else 0) |||
      (if (nextMicro s).j.getLsbD 1 && t.z then 0x100 else 0) |||
      (if (nextMicro s).j.getLsbD 2 then BitVec.ofNat 9 t.mbr.toNat else 0) ∧
    ((nextMicro s).j = 0 → t.mpc = (nextMicro s).next) ∧
    ((nextMicro s).j = 1 → t.mpc = if nextAlu s = 0 then (nextMicro s).next else (nextMicro s).next ||| 0x100) ∧
    ((nextMicro s).j = 2 → t.mpc = if nextAlu s = 0 then (nextMicro s).next ||| 0x100 else (nextMicro s).next) ∧
    ((nextMicro s).j = 3 → t.mpc = (nextMicro s).next ||| 0x100) ∧
    ((nextMicro s).j = 4 → t.mpc.getLsbD 8 = (nextMicro s).next.getLsbD 8 ∧
      t.mpc.setWidth 8 = (nextMicro s).next.setWidth 8 ||| t.mbr) ∧
    ((nextMicro s).j = 7 → t.mpc = (nextMicro s).next ||| BitVec.ofNat 9 t.mbr.toNat ||| 0x100)

/-- With JAMN and JAMZ both set, bit 8 of the next MPC is 1 (R235, R34). -/
def Obligations.BothFlagBitsAlwaysSetBitEight : Prop :=
  ∀ s t : State, step s = .next t → (nextMicro s).j.getLsbD 0 = true → (nextMicro s).j.getLsbD 1 = true → t.mpc.getLsbD 8 = true

/-- NEXT copies its 9-bit operand into MPC and changes nothing else (R122, R100). -/
def Obligations.NextFieldSetsMpc : Prop :=
  (∀ (next : MicroAddr) (s : State), exec (.nextMpc next) s = .next { s with mpc := next }) ∧
  ∀ w : MicroWord, (decode w).head? = some (.nextMpc (w.extractLsb' 27 9))

/-- What the B, OP and Shift rows leave unchanged (R130, R150, R171, R202). -/
def Obligations.BusAluAndShifterRowsFrame : Prop :=
  ∀ (i : Instr) (s t : State), 1 ≤ i.place → i.place ≤ 3 → exec i s = .next t →
    SameDestinations s t ∧ t.mbr = s.mbr ∧ t.mpc = s.mpc ∧ SameControl s t ∧ SameBytes s t ∧
    (i.place ≠ 1 → t.b = s.b) ∧ (i.place ≠ 2 → SameFlags s t ∧ t.aluOut = s.aluOut) ∧ (i.place ≠ 3 → t.c = s.c)

/-- What the C rows leave unchanged (R190, R202). -/
def Obligations.FanOutRowsFrame : Prop :=
  ∀ (i : Instr) (s t : State), 4 ≤ i.place → i.place ≤ 12 → exec i s = .next t →
    (i ≠ .cMar → t.mar = s.mar) ∧ (i ≠ .cMdr → t.mdr = s.mdr) ∧ (i ≠ .cPc → t.pc = s.pc) ∧
    (i ≠ .cSp → t.sp = s.sp) ∧ (i ≠ .cLv → t.lv = s.lv) ∧ (i ≠ .cCpp → t.cpp = s.cpp) ∧
    (i ≠ .cTos → t.tos = s.tos) ∧ (i ≠ .cOpc → t.opc = s.opc) ∧ (i ≠ .cH → t.h = s.h) ∧
    t.mbr = s.mbr ∧ t.mpc = s.mpc ∧ SameFlags s t ∧ t.b = s.b ∧ t.c = s.c ∧ SameControl s t ∧
    t.aluOut = s.aluOut ∧ SameBytes s t

/-- What the Mem rows leave unchanged (R211, R212, R213, R69). -/
def Obligations.MemoryRowsFrame : Prop :=
  ∀ (i : Instr) (s t : State), 13 ≤ i.place → i.place ≤ 15 → exec i s = .next t →
    SameDestinations { s with mdr := t.mdr } t ∧ (i ≠ .memRead → t.mdr = s.mdr) ∧ (i ≠ .memFetch → t.mbr = s.mbr) ∧
    t.mpc = s.mpc ∧ SameFlags s t ∧ t.b = s.b ∧ t.c = s.c ∧ SameControl s t ∧ t.aluOut = s.aluOut ∧
    (i ≠ .memWrite → SameBytes s t) ∧
    (i = .memWrite → ∀ a, a < wordOffset s.mar ∨ wordOffset s.mar + 4 ≤ a → t.mem.byteAt a = s.mem.byteAt a)

/-- What NEXT and the Jump rows leave unchanged (R122, R230). -/
def Obligations.SequencingRowsFrame : Prop :=
  ∀ (i : Instr) (s : State), i.place = 0 ∨ 16 ≤ i.place →
    ∃ t, exec i s = .next t ∧ SameDestinations s t ∧ t.mbr = s.mbr ∧ SameFlags s t ∧ t.b = s.b ∧ t.c = s.c ∧
      SameControl s t ∧ t.aluOut = s.aluOut ∧ SameBytes s t

/-- What a whole cycle changes in MIR, MBR, MDR, main memory, the control store and the status (fetch before write: D5, log 6) (R250, R251, R120, R62, R69, R210, 92_eei_decisions.md D5, notes/assumptions/6.md). -/
def Obligations.CycleFrame : Prop :=
  ∀ s t : State, step s = .next t →
    t.mir = ControlStore.fetch s.cs s.mpc.toNat ∧ t.cs = s.cs ∧ t.status = s.status ∧
    ((nextMicro s).mem.getLsbD 0 = true → t.mbr = s.mem.byteAt t.pc.toNat) ∧
    ((nextMicro s).mem.getLsbD 0 = false → t.mbr = s.mbr) ∧
    ((nextMicro s).mem.getLsbD 1 = true → t.mdr = s.mem.wordAt (wordOffset t.mar)) ∧
    ((nextMicro s).mem.getLsbD 1 = false → t.mdr = if (nextMicro s).c.getLsbD 1 then t.c else s.mdr) ∧
    ((nextMicro s).mem.getLsbD 2 = false → SameBytes s t) ∧
    ((nextMicro s).mem.getLsbD 2 = true → t.mem.wordAt (wordOffset t.mar) = t.mdr ∧
      ∀ a, a < wordOffset t.mar ∨ wordOffset t.mar + 4 ≤ a → t.mem.byteAt a = s.mem.byteAt a)

/-- A step latches the word at MPC and runs exec of each of its rows in order (R250, R110, R120). -/
def Obligations.StepRunsTheDecodedRows : Prop :=
  (∀ s : State, s.status = .running →
    step s = andThen (runRows (decode (ControlStore.fetch s.cs s.mpc.toNat))
      (s.setMir (ControlStore.fetch s.cs s.mpc.toNat))) fun t => .next (t.setAluOut 0)) ∧
  (∀ s : State, runRows [] s = .next s) ∧
  (∀ (i : Instr) (rows : List Instr) (s t : State), exec i s = .next t → runRows (i :: rows) s = runRows rows t) ∧
  (∀ (i : Instr) (rows : List Instr) (s : State) (f : Fault), exec i s = .fault f →
    runRows (i :: rows) s = .fault f) ∧
  ∀ w : MicroWord, wellFormed (decode w) = true

/-- The row-by-row step equals the spec's Cycle() on the field values (R250, R251, R252, 92_eei_decisions.md D4, D5, D6, D7). -/
def Obligations.StepIsTheSpecsPseudocode : Prop :=
  ∀ s : State, s.status = .running → step s = pseudocodeCycle (s.setAluOut 0)

/-- Every step keeps both memories canonical, the machine RUNNING and the wire A at 0 (R43, R44, R61, R63). -/
def Obligations.StepKeepsTheStateCanonical : Prop :=
  ∀ s t : State, s.Canonical → step s = .next t → t.Canonical

/-- The reset state satisfies the invariant every step keeps (R42, 10_state.md 8). -/
def Obligations.ResetIsCanonical : Prop :=
  State.reset.Canonical

/-- After every completed cycle MPC <= 511, MBR <= 255, N + Z = 1, and a plain write left memory equal to the prior MDR (R43). -/
def Obligations.BoundaryInvariantsHold : Prop :=
  (∀ s : State, s.mpc.toNat ≤ 511 ∧ s.mbr.toNat ≤ 255) ∧
  (∀ s t : State, step s = .next t → t.n.toNat + t.z.toNat = 1) ∧
  ∀ s t : State, step s = .next t → (nextMicro s).mem.getLsbD 2 = true → (nextMicro s).mem.getLsbD 1 = false → (nextMicro s).c.getLsbD 1 = false →
    t.mem.wordAt (wordOffset t.mar) = s.mdr ∧ t.mdr = s.mdr

/-- What a cycle answers does not depend on the N, Z, B, C and MIR it starts with (R34, R35, R36, R37, R327). -/
def Obligations.CycleIgnoresFlagsLatchesAndMir : Prop :=
  ∀ (s : State) (n z : Bool) (b c a : Word) (mir : MicroWord),
    step { s with n := n, z := z, b := b, c := c, mir := mir, aluOut := a } = step s

/-- A step completes exactly when the machine is RUNNING and its enabled accesses are in bounds (D6, log 7; D7, log 8) (R330, R250, R252, R64, R66, R67, 92_eei_decisions.md D6, D7, notes/assumptions/7.md, notes/assumptions/8.md). -/
def Obligations.StepCompletesExactlyInBounds : Prop :=
  ∀ s : State, (∃ t, step s = .next t) ↔ SafeState s

/-- Which fault a cycle reports, and its offset (D5, log 6; D6, log 7; D7, log 8) (R271, R273, R214, R219, R64, R66, R67, 92_eei_decisions.md D5, D6, D7, notes/assumptions/6.md, notes/assumptions/7.md, notes/assumptions/8.md). -/
def Obligations.StepFaultsExactlyAtTheFirstAccessOutOfBounds : Prop :=
  ∀ (s : State) (kind : AccessKind) (offset : Nat), s.status = .running →
    (step s = .fault (.memoryBounds kind offset) ↔
      match kind with
      | .fetch => (nextMicro s).mem.getLsbD 0 = true ∧ 100000000 ≤ (beforeMemory s).pc.toNat ∧
          offset = (beforeMemory s).pc.toNat
      | .read => ((nextMicro s).mem.getLsbD 0 = true → (beforeMemory s).pc.toNat < 100000000) ∧
          (nextMicro s).mem.getLsbD 1 = true ∧ 100000000 ≤ 4 * (beforeMemory s).mar.toNat + 3 ∧
          offset = 4 * (beforeMemory s).mar.toNat
      | .write => ((nextMicro s).mem.getLsbD 0 = true → (beforeMemory s).pc.toNat < 100000000) ∧
          (nextMicro s).mem.getLsbD 1 = false ∧ (nextMicro s).mem.getLsbD 2 = true ∧
          100000000 ≤ 4 * (beforeMemory s).mar.toNat + 3 ∧ offset = 4 * (beforeMemory s).mar.toNat)

/-- No microinstruction is illegal, and the only fault of a running machine is the bounds fault (R102, R274, R271, R277). -/
def Obligations.NoWordIsRefusedAndOnlyMemoryFaults : Prop :=
  (∀ (i : Instr) (s : State) (r : Refusal), exec i s ≠ .refused r) ∧
  (∀ (s : State) (r : Refusal), step s ≠ .refused r) ∧
  (∀ (i : Instr) (s : State), i ≠ .memFetch → i ≠ .memRead → i ≠ .memWrite → ∃ t, exec i s = .next t) ∧
  ∀ s : State, s.status = .running →
    (∃ t, step s = .next t) ∨ ∃ kind offset, step s = .fault (.memoryBounds kind offset)

/-- A fault leaves a FAULTED machine, and a FAULTED machine performs no further cycle (R38, R272, R279, 92_eei_decisions.md D9). -/
def Obligations.FaultedMachinePerformsNoCycle : Prop :=
  (∀ s : State, s.status = .faulted → step s = .fault .machineFaulted) ∧
  (∀ s : State, s.status = .running → ((∃ f, step s = .fault f) ↔ ∃ u, s.stopped = some u)) ∧
  (∀ s u : State, s.stopped = some u → u.status = .faulted ∧ step u = .fault .machineFaulted) ∧
  ∀ s t : State, step s = .next t → s.status = .running ∧ t.status = .running

/-- The all-zero microinstruction rewrites B, C, the flags and MPC and nothing else (R104). -/
def Obligations.ZeroWordReturnsToIndexZero : Prop :=
  ∀ s : State, s.status = .running → ControlStore.fetch s.cs s.mpc.toNat = 0 →
    step s = .next { s with mir := 0, b := s.mdr, c := 0, z := true, n := false, mpc := 0, aluOut := 0 }

/-- Reset clears every cell, sets RUNNING, and the first cycle latches control-store index 0 (R42, R301, 92_eei_decisions.md D10, D11). -/
def Obligations.ResetValues : Prop :=
  State.reset.mar = 0 ∧ State.reset.mdr = 0 ∧ State.reset.pc = 0 ∧ State.reset.mbr = 0 ∧ State.reset.sp = 0 ∧
  State.reset.lv = 0 ∧ State.reset.cpp = 0 ∧ State.reset.tos = 0 ∧ State.reset.opc = 0 ∧ State.reset.h = 0 ∧
  State.reset.mpc = 0 ∧ State.reset.n = false ∧ State.reset.z = false ∧ State.reset.b = 0 ∧ State.reset.c = 0 ∧
  State.reset.mir = 0 ∧ State.reset.status = .running ∧
  ∀ cs : ControlStore, fetchWord { State.reset with cs := cs } = cs.fetch 0

/-- The word placed for the host is exactly the one the next cycle latches (R305, R120, notes/assumptions/11.md). -/
def Obligations.PlacedWordIsTheNextLatched : Prop :=
  ∀ (s : State) (nbits w : Nat),
    fetchWord (s.withFetchWord nbits w) = BitVec.ofNat 36 (w % 2 ^ nbits) ∧
    (∀ i, i ≠ s.mpc.toNat → (s.withFetchWord nbits w).cs.fetch i = s.cs.fetch i) ∧
    s.withFetchWord nbits w = { s with cs := (s.withFetchWord nbits w).cs } ∧
    (ControlStore.wf s.cs = true → ControlStore.wf (s.withFetchWord nbits w).cs = true)

/-- Record i of the ROM file, modulo 2^36, is control-store word i; a short file is a load error (R305). -/
def Obligations.RomFileFillsTheControlStore : Prop :=
  (∀ file : List Byte, file.length < 4096 → loadRom file = .error .romTruncated) ∧
  ∀ file : List Byte, 4096 ≤ file.length →
    ∃ cs, loadRom file = .ok cs ∧ cs.wf = true ∧
      ∀ i, i < 512 → cs.fetch i = BitVec.ofNat 36 (littleEndian ((file.drop (8 * i)).take 8) % 2 ^ 36)

/-- The image's header goes to addresses 0 to 19, the rest to 0x0401 onward, every other byte its initial value (D12, log 4) (R306, R307, 92_eei_decisions.md D12, notes/assumptions/4.md). -/
def Obligations.ProgramImageFillsMainMemory : Prop :=
  ∀ (init : Memory) (f : List Byte) (size : Nat), size = littleEndian (f.take 4) → 20 ≤ size →
    0x0401 + (size - 20) ≤ 100000000 → 4 + size ≤ f.length →
    ∃ m, loadImage init f = .ok m ∧
      (∀ k, k < 20 → m.byteAt k = f.getD (4 + k) 0) ∧
      (∀ k, k < size - 20 → m.byteAt (0x0401 + k) = f.getD (24 + k) 0) ∧
      ∀ a, 20 ≤ a → (a < 0x0401 ∨ 0x0401 + (size - 20) ≤ a) → m.byteAt a = init.byteAt a

/-- A size below 20, an image that does not fit and a short file are load errors, and nothing else is (R308, R276, 92_eei_decisions.md D18). -/
def Obligations.ImageCornerCasesAreLoadErrors : Prop :=
  ∀ (init : Memory) (f : List Byte),
    (∃ e, loadImage init f = .error e) ↔
      (f.length < 4 ∨ littleEndian (f.take 4) < 20 ∨
        100000000 < 0x0401 + (littleEndian (f.take 4) - 20) ∨ f.length < 4 + littleEndian (f.take 4))

/-- A booted machine is reset plus the two memories and satisfies the invariant; a missing file is a load error, named in log 14's order (R300, R276, R301, notes/assumptions/14.md). -/
def Obligations.BootedMachineIsResetPlusMemories : Prop :=
  (∀ (init : Memory) (rom image : List Byte) (s : State), init.wf = true →
    State.boot init (some rom) (some image) = .ok s →
    s = { State.reset with cs := s.cs, mem := s.mem } ∧ loadRom rom = .ok s.cs ∧ loadImage init image = .ok s.mem ∧
      s.Canonical) ∧
  (∀ (init : Memory) (image : Option (List Byte)), State.boot init none image = .error .romMissing) ∧
  ∀ (init : Memory) (rom : List Byte), State.boot init (some rom) none = .error .imageMissing
end

