-- ==== Sys2Proof/Laws/Decode.lean ====
section
/-! SUPPORT. The laws of the decoder: which rows a field gives, the places they stand at, and the word they encode to
(30_encoding.md R91 to R100, R110). -/

namespace Sys2Proof

theorem place_rowOfB : ∀ b, (rowOfB b).place = 1 := by decide
theorem place_rowOfOp : ∀ op, (rowOfOp op).place = 2 := by decide
theorem place_rowOfShift : ∀ sh, (rowOfShift sh).place = 3 := by decide

/-- A B row is the row of exactly one selector value. -/
theorem exists_rowOfB {i : Instr} (h : i.place = 1) : ∃ b, rowOfB b = i := by
  cases i <;> first | (exact absurd h (by decide)) | decide | cases h

/-- An OP row is the row of exactly one operation code. -/
theorem exists_rowOfOp {i : Instr} (h : i.place = 2) : ∃ op, rowOfOp op = i := by
  cases i <;> first | (exact absurd h (by decide)) | decide | cases h

/-- A Shift row is the row of exactly one shifter code. -/
theorem exists_rowOfShift {i : Instr} (h : i.place = 3) : ∃ sh, rowOfShift sh = i := by
  cases i <;> first | (exact absurd h (by decide)) | decide | cases h

theorem exists_next {i : Instr} (h : i.place = 0) : ∃ next, i = .nextMpc next := by
  cases i <;> first | exact ⟨_, rfl⟩ | (exact absurd h (by decide))

/-! The bits each field's row contributes. -/

theorem encodeRow_rowOfB : ∀ b, encodeRow (rowOfB b) = b.setWidth 36 := by decide
theorem encodeRow_rowOfOp : ∀ op, encodeRow (rowOfOp op) = op.setWidth 36 <<< 16 := by decide
theorem encodeRow_rowOfShift : ∀ sh, encodeRow (rowOfShift sh) = sh.setWidth 36 <<< 22 := by decide
theorem encode_rowsOfMem : ∀ mem, encode (rowsOfMem mem) = mem.setWidth 36 <<< 4 := by decide
theorem encode_rowsOfJump : ∀ j, encode (rowsOfJump j) = j.setWidth 36 <<< 24 := by decide

theorem encode_append (l k : List Instr) : encode (l ++ k) = encode l ||| encode k := by
  induction l with
  | nil => simp [encode]
  | cons i l ih =>
    show encodeRow i ||| encode (l ++ k) = (encodeRow i ||| encode l) ||| encode k
    rw [ih, BitVec.or_assoc]

end Sys2Proof
end

