-- ==== Sys2Proof/Laws/Memory.lean ====
section
/-! SUPPORT. The laws of the two sparse memories: what a read gives after a write, and that every operation keeps the
canonical form (20_memory.md R65 to R70). -/

namespace Sys2Proof.Machine

section Sparse
variable {α : Type} (fill : α)

theorem sparseGet_erase (l : List (Nat × α)) (a b : Nat) :
    sparseGet fill (sparseErase l a) b = if b = a then fill else sparseGet fill l b := by
  induction l with
  | nil => simp [sparseErase, sparseGet]
  | cons e l ih =>
    obtain ⟨k, v⟩ := e
    by_cases hk : k = a <;> by_cases hb : b = a <;> by_cases hkb : k = b <;>
      simp_all [sparseErase, sparseGet]

theorem sparseGet_insert (l : List (Nat × α)) (a b : Nat) (v : α) (h : ∀ e ∈ l, e.1 ≠ a) :
    sparseGet fill (sparseInsert l a v) b = if b = a then v else sparseGet fill l b := by
  induction l with
  | nil => simp [sparseInsert, sparseGet, eq_comm]
  | cons e l ih =>
    obtain ⟨k, w⟩ := e
    have hk : k ≠ a := h (k, w) (by simp)
    have ih := ih fun e he => h e (by simp [he])
    unfold sparseInsert
    split
    · simp [sparseGet, eq_comm]
    · rw [sparseGet, ih, sparseGet]
      split <;> split <;> simp_all

theorem mem_erase_key (l : List (Nat × α)) (a : Nat) : ∀ e ∈ sparseErase l a, e.1 ≠ a := by
  induction l with
  | nil => simp [sparseErase]
  | cons e l ih =>
    obtain ⟨k, v⟩ := e
    unfold sparseErase
    split
    · exact ih
    · simpa using ⟨‹_›, fun a b h => ih (a, b) h⟩

variable [DecidableEq α]

/-- A read after a write, at the same key and at every other. -/
theorem sparseGet_set (l : List (Nat × α)) (a b : Nat) (v : α) :
    sparseGet fill (sparseSet fill l a v) b = if b = a then v else sparseGet fill l b := by
  unfold sparseSet
  split
  · rw [sparseGet_erase]; simp [*]
  · rw [sparseGet_insert _ _ _ _ _ (mem_erase_key l a), sparseGet_erase]
    split <;> rfl

theorem sparseWf_mono {bound lo lo' : Nat} (h : lo' ≤ lo) {l : List (Nat × α)}
    (hl : sparseWf fill bound lo l = true) : sparseWf fill bound lo' l = true := by
  cases l with
  | nil => rfl
  | cons e l => simp_all [sparseWf]; omega

theorem sparseWf_erase {bound lo : Nat} (a : Nat) {l : List (Nat × α)}
    (hl : sparseWf fill bound lo l = true) : sparseWf fill bound lo (sparseErase l a) = true := by
  induction l generalizing lo with
  | nil => rfl
  | cons e l ih =>
    obtain ⟨k, v⟩ := e
    simp only [sparseWf, Bool.and_eq_true, decide_eq_true_eq] at hl
    unfold sparseErase
    split
    · exact sparseWf_mono fill (by omega) (ih hl.2)
    · simp only [sparseWf, Bool.and_eq_true, decide_eq_true_eq]
      exact ⟨hl.1, ih hl.2⟩

theorem sparseWf_insert {bound lo a : Nat} {v : α} {l : List (Nat × α)} (ha : a < bound) (hlo : lo ≤ a)
    (hv : v ≠ fill) (hkeys : ∀ e ∈ l, e.1 ≠ a) (hl : sparseWf fill bound lo l = true) :
    sparseWf fill bound lo (sparseInsert l a v) = true := by
  induction l generalizing lo with
  | nil => simp [sparseInsert, sparseWf, ha, hlo, hv]
  | cons e l ih =>
    obtain ⟨k, w⟩ := e
    have hk : k ≠ a := hkeys (k, w) (by simp)
    simp only [sparseWf, Bool.and_eq_true, decide_eq_true_eq] at hl
    unfold sparseInsert
    split
    · simp_all [sparseWf]
    · simp only [sparseWf, Bool.and_eq_true, decide_eq_true_eq]
      exact ⟨hl.1, ih (by omega) (fun e he => hkeys e (by simp [he])) hl.2⟩

/-- A write inside the bound keeps the canonical form. -/
theorem sparseWf_set {bound a : Nat} (v : α) {l : List (Nat × α)} (ha : a < bound)
    (hl : sparseWf fill bound 0 l = true) : sparseWf fill bound 0 (sparseSet fill l a v) = true := by
  unfold sparseSet
  split
  · exact sparseWf_erase fill a hl
  · exact sparseWf_insert fill ha (Nat.zero_le a) ‹_› (mem_erase_key l a) (sparseWf_erase fill a hl)

end Sparse

/-! Main memory. -/

theorem Memory.byteAt_setByte (m : Memory) (a b : Nat) (v : Byte) :
    (m.setByte a v).byteAt b = if b = a then v else m.byteAt b :=
  sparseGet_set _ m a b v

theorem Memory.wf_setByte {m : Memory} {a : Nat} (v : Byte) (ha : a < Config.memBytes) (hm : m.wf = true) :
    (m.setByte a v).wf = true :=
  sparseWf_set _ v ha hm

/-- Every byte after a word is written: the four bytes of the word, and every other as before (R69). -/
theorem Memory.byteAt_setWord (m : Memory) (a b : Nat) (v : Word) :
    (m.setWord a v).byteAt b =
      if b = a then wordByte v 0 else if b = a + 1 then wordByte v 1 else if b = a + 2 then wordByte v 2
      else if b = a + 3 then wordByte v 3 else m.byteAt b := by
  simp only [Memory.setWord, Memory.byteAt_setByte]
  repeat' split
  all_goals first | rfl | omega

theorem Memory.byteAt_setWord_outside (m : Memory) {a b : Nat} (v : Word) (h : b < a ∨ a + 4 ≤ b) :
    (m.setWord a v).byteAt b = m.byteAt b := by
  rw [Memory.byteAt_setWord]
  repeat' split
  all_goals first | rfl | omega

theorem Memory.wf_setWord {m : Memory} {a : Nat} (v : Word) (ha : a + 3 < Config.memBytes) (hm : m.wf = true) :
    (m.setWord a v).wf = true := by
  unfold Memory.setWord
  exact wf_setByte _ ha (wf_setByte _ (by omega) (wf_setByte _ (by omega) (wf_setByte _ (by omega) hm)))

/-- A word is its four bytes (R65). -/
theorem wordByte_append (v : Word) : wordByte v 3 ++ wordByte v 2 ++ wordByte v 1 ++ wordByte v 0 = v := by
  apply BitVec.eq_of_getLsbD_eq
  intro i hi
  simp only [wordByte, BitVec.getLsbD_append, BitVec.getLsbD_extractLsb']
  repeat' split
  all_goals first
    | (simp; omega)
    | (rw [decide_eq_true (by omega), Bool.true_and]; congr 1; omega)

theorem wordByte_wordAt (m : Memory) (a : Nat) :
    wordByte (m.wordAt a) 0 = m.byteAt a ∧ wordByte (m.wordAt a) 1 = m.byteAt (a + 1) ∧
      wordByte (m.wordAt a) 2 = m.byteAt (a + 2) ∧ wordByte (m.wordAt a) 3 = m.byteAt (a + 3) := by
  refine ⟨?_, ?_, ?_, ?_⟩ <;>
  · ext i hi
    simp only [wordByte, Memory.wordAt, BitVec.getElem_extractLsb', BitVec.getLsbD_append]
    repeat' split
    all_goals first | omega | (simp only [← BitVec.getLsbD_eq_getElem]; congr 1; omega)

/-- The word read at the place it was written is the word (R70). -/
theorem Memory.wordAt_setWord (m : Memory) (a : Nat) (v : Word) : (m.setWord a v).wordAt a = v := by
  simp [Memory.wordAt, Memory.byteAt_setWord, wordByte_append]

/-- Writing back the word just read changes no byte (R215). -/
theorem Memory.byteAt_setWord_wordAt (m : Memory) (a b : Nat) : (m.setWord a (m.wordAt a)).byteAt b = m.byteAt b := by
  obtain ⟨h0, h1, h2, h3⟩ := wordByte_wordAt m a
  rw [Memory.byteAt_setWord, h0, h1, h2, h3]
  repeat' split
  all_goals simp [*]

/-! The control store. -/

theorem ControlStore.fetch_place (cs : ControlStore) (i k : Nat) (w : MicroWord) :
    (cs.place i w).fetch k = if k = i then w else cs.fetch k :=
  sparseGet_set _ cs i k w

theorem ControlStore.wf_place {cs : ControlStore} {i : Nat} (w : MicroWord) (hi : i < Config.csEntries)
    (h : cs.wf = true) : (cs.place i w).wf = true :=
  sparseWf_set _ w hi h

end Sys2Proof.Machine
end

