-- ==== Sys2Proof/Laws/State.lean ====
section
/-! SUPPORT. What each write of a cell leaves in each cell. -/

namespace Sys2Proof.Machine

section
variable (s : State) (v : Word)
@[simp] theorem State.setMar_mar : (s.setMar v).mar = v := rfl
@[simp] theorem State.setMar_mdr : (s.setMar v).mdr = s.mdr := rfl
@[simp] theorem State.setMar_pc : (s.setMar v).pc = s.pc := rfl
@[simp] theorem State.setMar_mbr : (s.setMar v).mbr = s.mbr := rfl
@[simp] theorem State.setMar_sp : (s.setMar v).sp = s.sp := rfl
@[simp] theorem State.setMar_lv : (s.setMar v).lv = s.lv := rfl
@[simp] theorem State.setMar_cpp : (s.setMar v).cpp = s.cpp := rfl
@[simp] theorem State.setMar_tos : (s.setMar v).tos = s.tos := rfl
@[simp] theorem State.setMar_opc : (s.setMar v).opc = s.opc := rfl
@[simp] theorem State.setMar_h : (s.setMar v).h = s.h := rfl
@[simp] theorem State.setMar_mpc : (s.setMar v).mpc = s.mpc := rfl
@[simp] theorem State.setMar_n : (s.setMar v).n = s.n := rfl
@[simp] theorem State.setMar_z : (s.setMar v).z = s.z := rfl
@[simp] theorem State.setMar_b : (s.setMar v).b = s.b := rfl
@[simp] theorem State.setMar_c : (s.setMar v).c = s.c := rfl
@[simp] theorem State.setMar_mir : (s.setMar v).mir = s.mir := rfl
@[simp] theorem State.setMar_status : (s.setMar v).status = s.status := rfl
@[simp] theorem State.setMar_mem : (s.setMar v).mem = s.mem := rfl
@[simp] theorem State.setMar_cs : (s.setMar v).cs = s.cs := rfl
@[simp] theorem State.setMar_aluOut : (s.setMar v).aluOut = s.aluOut := rfl
end

section
variable (s : State) (v : Word)
@[simp] theorem State.setMdr_mar : (s.setMdr v).mar = s.mar := rfl
@[simp] theorem State.setMdr_mdr : (s.setMdr v).mdr = v := rfl
@[simp] theorem State.setMdr_pc : (s.setMdr v).pc = s.pc := rfl
@[simp] theorem State.setMdr_mbr : (s.setMdr v).mbr = s.mbr := rfl
@[simp] theorem State.setMdr_sp : (s.setMdr v).sp = s.sp := rfl
@[simp] theorem State.setMdr_lv : (s.setMdr v).lv = s.lv := rfl
@[simp] theorem State.setMdr_cpp : (s.setMdr v).cpp = s.cpp := rfl
@[simp] theorem State.setMdr_tos : (s.setMdr v).tos = s.tos := rfl
@[simp] theorem State.setMdr_opc : (s.setMdr v).opc = s.opc := rfl
@[simp] theorem State.setMdr_h : (s.setMdr v).h = s.h := rfl
@[simp] theorem State.setMdr_mpc : (s.setMdr v).mpc = s.mpc := rfl
@[simp] theorem State.setMdr_n : (s.setMdr v).n = s.n := rfl
@[simp] theorem State.setMdr_z : (s.setMdr v).z = s.z := rfl
@[simp] theorem State.setMdr_b : (s.setMdr v).b = s.b := rfl
@[simp] theorem State.setMdr_c : (s.setMdr v).c = s.c := rfl
@[simp] theorem State.setMdr_mir : (s.setMdr v).mir = s.mir := rfl
@[simp] theorem State.setMdr_status : (s.setMdr v).status = s.status := rfl
@[simp] theorem State.setMdr_mem : (s.setMdr v).mem = s.mem := rfl
@[simp] theorem State.setMdr_cs : (s.setMdr v).cs = s.cs := rfl
@[simp] theorem State.setMdr_aluOut : (s.setMdr v).aluOut = s.aluOut := rfl
end

section
variable (s : State) (v : Word)
@[simp] theorem State.setPc_mar : (s.setPc v).mar = s.mar := rfl
@[simp] theorem State.setPc_mdr : (s.setPc v).mdr = s.mdr := rfl
@[simp] theorem State.setPc_pc : (s.setPc v).pc = v := rfl
@[simp] theorem State.setPc_mbr : (s.setPc v).mbr = s.mbr := rfl
@[simp] theorem State.setPc_sp : (s.setPc v).sp = s.sp := rfl
@[simp] theorem State.setPc_lv : (s.setPc v).lv = s.lv := rfl
@[simp] theorem State.setPc_cpp : (s.setPc v).cpp = s.cpp := rfl
@[simp] theorem State.setPc_tos : (s.setPc v).tos = s.tos := rfl
@[simp] theorem State.setPc_opc : (s.setPc v).opc = s.opc := rfl
@[simp] theorem State.setPc_h : (s.setPc v).h = s.h := rfl
@[simp] theorem State.setPc_mpc : (s.setPc v).mpc = s.mpc := rfl
@[simp] theorem State.setPc_n : (s.setPc v).n = s.n := rfl
@[simp] theorem State.setPc_z : (s.setPc v).z = s.z := rfl
@[simp] theorem State.setPc_b : (s.setPc v).b = s.b := rfl
@[simp] theorem State.setPc_c : (s.setPc v).c = s.c := rfl
@[simp] theorem State.setPc_mir : (s.setPc v).mir = s.mir := rfl
@[simp] theorem State.setPc_status : (s.setPc v).status = s.status := rfl
@[simp] theorem State.setPc_mem : (s.setPc v).mem = s.mem := rfl
@[simp] theorem State.setPc_cs : (s.setPc v).cs = s.cs := rfl
@[simp] theorem State.setPc_aluOut : (s.setPc v).aluOut = s.aluOut := rfl
end

section
variable (s : State) (v : Byte)
@[simp] theorem State.setMbr_mar : (s.setMbr v).mar = s.mar := rfl
@[simp] theorem State.setMbr_mdr : (s.setMbr v).mdr = s.mdr := rfl
@[simp] theorem State.setMbr_pc : (s.setMbr v).pc = s.pc := rfl
@[simp] theorem State.setMbr_mbr : (s.setMbr v).mbr = v := rfl
@[simp] theorem State.setMbr_sp : (s.setMbr v).sp = s.sp := rfl
@[simp] theorem State.setMbr_lv : (s.setMbr v).lv = s.lv := rfl
@[simp] theorem State.setMbr_cpp : (s.setMbr v).cpp = s.cpp := rfl
@[simp] theorem State.setMbr_tos : (s.setMbr v).tos = s.tos := rfl
@[simp] theorem State.setMbr_opc : (s.setMbr v).opc = s.opc := rfl
@[simp] theorem State.setMbr_h : (s.setMbr v).h = s.h := rfl
@[simp] theorem State.setMbr_mpc : (s.setMbr v).mpc = s.mpc := rfl
@[simp] theorem State.setMbr_n : (s.setMbr v).n = s.n := rfl
@[simp] theorem State.setMbr_z : (s.setMbr v).z = s.z := rfl
@[simp] theorem State.setMbr_b : (s.setMbr v).b = s.b := rfl
@[simp] theorem State.setMbr_c : (s.setMbr v).c = s.c := rfl
@[simp] theorem State.setMbr_mir : (s.setMbr v).mir = s.mir := rfl
@[simp] theorem State.setMbr_status : (s.setMbr v).status = s.status := rfl
@[simp] theorem State.setMbr_mem : (s.setMbr v).mem = s.mem := rfl
@[simp] theorem State.setMbr_cs : (s.setMbr v).cs = s.cs := rfl
@[simp] theorem State.setMbr_aluOut : (s.setMbr v).aluOut = s.aluOut := rfl
end

section
variable (s : State) (v : Word)
@[simp] theorem State.setSp_mar : (s.setSp v).mar = s.mar := rfl
@[simp] theorem State.setSp_mdr : (s.setSp v).mdr = s.mdr := rfl
@[simp] theorem State.setSp_pc : (s.setSp v).pc = s.pc := rfl
@[simp] theorem State.setSp_mbr : (s.setSp v).mbr = s.mbr := rfl
@[simp] theorem State.setSp_sp : (s.setSp v).sp = v := rfl
@[simp] theorem State.setSp_lv : (s.setSp v).lv = s.lv := rfl
@[simp] theorem State.setSp_cpp : (s.setSp v).cpp = s.cpp := rfl
@[simp] theorem State.setSp_tos : (s.setSp v).tos = s.tos := rfl
@[simp] theorem State.setSp_opc : (s.setSp v).opc = s.opc := rfl
@[simp] theorem State.setSp_h : (s.setSp v).h = s.h := rfl
@[simp] theorem State.setSp_mpc : (s.setSp v).mpc = s.mpc := rfl
@[simp] theorem State.setSp_n : (s.setSp v).n = s.n := rfl
@[simp] theorem State.setSp_z : (s.setSp v).z = s.z := rfl
@[simp] theorem State.setSp_b : (s.setSp v).b = s.b := rfl
@[simp] theorem State.setSp_c : (s.setSp v).c = s.c := rfl
@[simp] theorem State.setSp_mir : (s.setSp v).mir = s.mir := rfl
@[simp] theorem State.setSp_status : (s.setSp v).status = s.status := rfl
@[simp] theorem State.setSp_mem : (s.setSp v).mem = s.mem := rfl
@[simp] theorem State.setSp_cs : (s.setSp v).cs = s.cs := rfl
@[simp] theorem State.setSp_aluOut : (s.setSp v).aluOut = s.aluOut := rfl
end

section
variable (s : State) (v : Word)
@[simp] theorem State.setLv_mar : (s.setLv v).mar = s.mar := rfl
@[simp] theorem State.setLv_mdr : (s.setLv v).mdr = s.mdr := rfl
@[simp] theorem State.setLv_pc : (s.setLv v).pc = s.pc := rfl
@[simp] theorem State.setLv_mbr : (s.setLv v).mbr = s.mbr := rfl
@[simp] theorem State.setLv_sp : (s.setLv v).sp = s.sp := rfl
@[simp] theorem State.setLv_lv : (s.setLv v).lv = v := rfl
@[simp] theorem State.setLv_cpp : (s.setLv v).cpp = s.cpp := rfl
@[simp] theorem State.setLv_tos : (s.setLv v).tos = s.tos := rfl
@[simp] theorem State.setLv_opc : (s.setLv v).opc = s.opc := rfl
@[simp] theorem State.setLv_h : (s.setLv v).h = s.h := rfl
@[simp] theorem State.setLv_mpc : (s.setLv v).mpc = s.mpc := rfl
@[simp] theorem State.setLv_n : (s.setLv v).n = s.n := rfl
@[simp] theorem State.setLv_z : (s.setLv v).z = s.z := rfl
@[simp] theorem State.setLv_b : (s.setLv v).b = s.b := rfl
@[simp] theorem State.setLv_c : (s.setLv v).c = s.c := rfl
@[simp] theorem State.setLv_mir : (s.setLv v).mir = s.mir := rfl
@[simp] theorem State.setLv_status : (s.setLv v).status = s.status := rfl
@[simp] theorem State.setLv_mem : (s.setLv v).mem = s.mem := rfl
@[simp] theorem State.setLv_cs : (s.setLv v).cs = s.cs := rfl
@[simp] theorem State.setLv_aluOut : (s.setLv v).aluOut = s.aluOut := rfl
end

section
variable (s : State) (v : Word)
@[simp] theorem State.setCpp_mar : (s.setCpp v).mar = s.mar := rfl
@[simp] theorem State.setCpp_mdr : (s.setCpp v).mdr = s.mdr := rfl
@[simp] theorem State.setCpp_pc : (s.setCpp v).pc = s.pc := rfl
@[simp] theorem State.setCpp_mbr : (s.setCpp v).mbr = s.mbr := rfl
@[simp] theorem State.setCpp_sp : (s.setCpp v).sp = s.sp := rfl
@[simp] theorem State.setCpp_lv : (s.setCpp v).lv = s.lv := rfl
@[simp] theorem State.setCpp_cpp : (s.setCpp v).cpp = v := rfl
@[simp] theorem State.setCpp_tos : (s.setCpp v).tos = s.tos := rfl
@[simp] theorem State.setCpp_opc : (s.setCpp v).opc = s.opc := rfl
@[simp] theorem State.setCpp_h : (s.setCpp v).h = s.h := rfl
@[simp] theorem State.setCpp_mpc : (s.setCpp v).mpc = s.mpc := rfl
@[simp] theorem State.setCpp_n : (s.setCpp v).n = s.n := rfl
@[simp] theorem State.setCpp_z : (s.setCpp v).z = s.z := rfl
@[simp] theorem State.setCpp_b : (s.setCpp v).b = s.b := rfl
@[simp] theorem State.setCpp_c : (s.setCpp v).c = s.c := rfl
@[simp] theorem State.setCpp_mir : (s.setCpp v).mir = s.mir := rfl
@[simp] theorem State.setCpp_status : (s.setCpp v).status = s.status := rfl
@[simp] theorem State.setCpp_mem : (s.setCpp v).mem = s.mem := rfl
@[simp] theorem State.setCpp_cs : (s.setCpp v).cs = s.cs := rfl
@[simp] theorem State.setCpp_aluOut : (s.setCpp v).aluOut = s.aluOut := rfl
end

section
variable (s : State) (v : Word)
@[simp] theorem State.setTos_mar : (s.setTos v).mar = s.mar := rfl
@[simp] theorem State.setTos_mdr : (s.setTos v).mdr = s.mdr := rfl
@[simp] theorem State.setTos_pc : (s.setTos v).pc = s.pc := rfl
@[simp] theorem State.setTos_mbr : (s.setTos v).mbr = s.mbr := rfl
@[simp] theorem State.setTos_sp : (s.setTos v).sp = s.sp := rfl
@[simp] theorem State.setTos_lv : (s.setTos v).lv = s.lv := rfl
@[simp] theorem State.setTos_cpp : (s.setTos v).cpp = s.cpp := rfl
@[simp] theorem State.setTos_tos : (s.setTos v).tos = v := rfl
@[simp] theorem State.setTos_opc : (s.setTos v).opc = s.opc := rfl
@[simp] theorem State.setTos_h : (s.setTos v).h = s.h := rfl
@[simp] theorem State.setTos_mpc : (s.setTos v).mpc = s.mpc := rfl
@[simp] theorem State.setTos_n : (s.setTos v).n = s.n := rfl
@[simp] theorem State.setTos_z : (s.setTos v).z = s.z := rfl
@[simp] theorem State.setTos_b : (s.setTos v).b = s.b := rfl
@[simp] theorem State.setTos_c : (s.setTos v).c = s.c := rfl
@[simp] theorem State.setTos_mir : (s.setTos v).mir = s.mir := rfl
@[simp] theorem State.setTos_status : (s.setTos v).status = s.status := rfl
@[simp] theorem State.setTos_mem : (s.setTos v).mem = s.mem := rfl
@[simp] theorem State.setTos_cs : (s.setTos v).cs = s.cs := rfl
@[simp] theorem State.setTos_aluOut : (s.setTos v).aluOut = s.aluOut := rfl
end

section
variable (s : State) (v : Word)
@[simp] theorem State.setOpc_mar : (s.setOpc v).mar = s.mar := rfl
@[simp] theorem State.setOpc_mdr : (s.setOpc v).mdr = s.mdr := rfl
@[simp] theorem State.setOpc_pc : (s.setOpc v).pc = s.pc := rfl
@[simp] theorem State.setOpc_mbr : (s.setOpc v).mbr = s.mbr := rfl
@[simp] theorem State.setOpc_sp : (s.setOpc v).sp = s.sp := rfl
@[simp] theorem State.setOpc_lv : (s.setOpc v).lv = s.lv := rfl
@[simp] theorem State.setOpc_cpp : (s.setOpc v).cpp = s.cpp := rfl
@[simp] theorem State.setOpc_tos : (s.setOpc v).tos = s.tos := rfl
@[simp] theorem State.setOpc_opc : (s.setOpc v).opc = v := rfl
@[simp] theorem State.setOpc_h : (s.setOpc v).h = s.h := rfl
@[simp] theorem State.setOpc_mpc : (s.setOpc v).mpc = s.mpc := rfl
@[simp] theorem State.setOpc_n : (s.setOpc v).n = s.n := rfl
@[simp] theorem State.setOpc_z : (s.setOpc v).z = s.z := rfl
@[simp] theorem State.setOpc_b : (s.setOpc v).b = s.b := rfl
@[simp] theorem State.setOpc_c : (s.setOpc v).c = s.c := rfl
@[simp] theorem State.setOpc_mir : (s.setOpc v).mir = s.mir := rfl
@[simp] theorem State.setOpc_status : (s.setOpc v).status = s.status := rfl
@[simp] theorem State.setOpc_mem : (s.setOpc v).mem = s.mem := rfl
@[simp] theorem State.setOpc_cs : (s.setOpc v).cs = s.cs := rfl
@[simp] theorem State.setOpc_aluOut : (s.setOpc v).aluOut = s.aluOut := rfl
end

section
variable (s : State) (v : Word)
@[simp] theorem State.setH_mar : (s.setH v).mar = s.mar := rfl
@[simp] theorem State.setH_mdr : (s.setH v).mdr = s.mdr := rfl
@[simp] theorem State.setH_pc : (s.setH v).pc = s.pc := rfl
@[simp] theorem State.setH_mbr : (s.setH v).mbr = s.mbr := rfl
@[simp] theorem State.setH_sp : (s.setH v).sp = s.sp := rfl
@[simp] theorem State.setH_lv : (s.setH v).lv = s.lv := rfl
@[simp] theorem State.setH_cpp : (s.setH v).cpp = s.cpp := rfl
@[simp] theorem State.setH_tos : (s.setH v).tos = s.tos := rfl
@[simp] theorem State.setH_opc : (s.setH v).opc = s.opc := rfl
@[simp] theorem State.setH_h : (s.setH v).h = v := rfl
@[simp] theorem State.setH_mpc : (s.setH v).mpc = s.mpc := rfl
@[simp] theorem State.setH_n : (s.setH v).n = s.n := rfl
@[simp] theorem State.setH_z : (s.setH v).z = s.z := rfl
@[simp] theorem State.setH_b : (s.setH v).b = s.b := rfl
@[simp] theorem State.setH_c : (s.setH v).c = s.c := rfl
@[simp] theorem State.setH_mir : (s.setH v).mir = s.mir := rfl
@[simp] theorem State.setH_status : (s.setH v).status = s.status := rfl
@[simp] theorem State.setH_mem : (s.setH v).mem = s.mem := rfl
@[simp] theorem State.setH_cs : (s.setH v).cs = s.cs := rfl
@[simp] theorem State.setH_aluOut : (s.setH v).aluOut = s.aluOut := rfl
end

section
variable (s : State) (v : MicroAddr)
@[simp] theorem State.setMpc_mar : (s.setMpc v).mar = s.mar := rfl
@[simp] theorem State.setMpc_mdr : (s.setMpc v).mdr = s.mdr := rfl
@[simp] theorem State.setMpc_pc : (s.setMpc v).pc = s.pc := rfl
@[simp] theorem State.setMpc_mbr : (s.setMpc v).mbr = s.mbr := rfl
@[simp] theorem State.setMpc_sp : (s.setMpc v).sp = s.sp := rfl
@[simp] theorem State.setMpc_lv : (s.setMpc v).lv = s.lv := rfl
@[simp] theorem State.setMpc_cpp : (s.setMpc v).cpp = s.cpp := rfl
@[simp] theorem State.setMpc_tos : (s.setMpc v).tos = s.tos := rfl
@[simp] theorem State.setMpc_opc : (s.setMpc v).opc = s.opc := rfl
@[simp] theorem State.setMpc_h : (s.setMpc v).h = s.h := rfl
@[simp] theorem State.setMpc_mpc : (s.setMpc v).mpc = v := rfl
@[simp] theorem State.setMpc_n : (s.setMpc v).n = s.n := rfl
@[simp] theorem State.setMpc_z : (s.setMpc v).z = s.z := rfl
@[simp] theorem State.setMpc_b : (s.setMpc v).b = s.b := rfl
@[simp] theorem State.setMpc_c : (s.setMpc v).c = s.c := rfl
@[simp] theorem State.setMpc_mir : (s.setMpc v).mir = s.mir := rfl
@[simp] theorem State.setMpc_status : (s.setMpc v).status = s.status := rfl
@[simp] theorem State.setMpc_mem : (s.setMpc v).mem = s.mem := rfl
@[simp] theorem State.setMpc_cs : (s.setMpc v).cs = s.cs := rfl
@[simp] theorem State.setMpc_aluOut : (s.setMpc v).aluOut = s.aluOut := rfl
end

section
variable (s : State) (v : Word)
@[simp] theorem State.setB_mar : (s.setB v).mar = s.mar := rfl
@[simp] theorem State.setB_mdr : (s.setB v).mdr = s.mdr := rfl
@[simp] theorem State.setB_pc : (s.setB v).pc = s.pc := rfl
@[simp] theorem State.setB_mbr : (s.setB v).mbr = s.mbr := rfl
@[simp] theorem State.setB_sp : (s.setB v).sp = s.sp := rfl
@[simp] theorem State.setB_lv : (s.setB v).lv = s.lv := rfl
@[simp] theorem State.setB_cpp : (s.setB v).cpp = s.cpp := rfl
@[simp] theorem State.setB_tos : (s.setB v).tos = s.tos := rfl
@[simp] theorem State.setB_opc : (s.setB v).opc = s.opc := rfl
@[simp] theorem State.setB_h : (s.setB v).h = s.h := rfl
@[simp] theorem State.setB_mpc : (s.setB v).mpc = s.mpc := rfl
@[simp] theorem State.setB_n : (s.setB v).n = s.n := rfl
@[simp] theorem State.setB_z : (s.setB v).z = s.z := rfl
@[simp] theorem State.setB_b : (s.setB v).b = v := rfl
@[simp] theorem State.setB_c : (s.setB v).c = s.c := rfl
@[simp] theorem State.setB_mir : (s.setB v).mir = s.mir := rfl
@[simp] theorem State.setB_status : (s.setB v).status = s.status := rfl
@[simp] theorem State.setB_mem : (s.setB v).mem = s.mem := rfl
@[simp] theorem State.setB_cs : (s.setB v).cs = s.cs := rfl
@[simp] theorem State.setB_aluOut : (s.setB v).aluOut = s.aluOut := rfl
end

section
variable (s : State) (v : Word)
@[simp] theorem State.setC_mar : (s.setC v).mar = s.mar := rfl
@[simp] theorem State.setC_mdr : (s.setC v).mdr = s.mdr := rfl
@[simp] theorem State.setC_pc : (s.setC v).pc = s.pc := rfl
@[simp] theorem State.setC_mbr : (s.setC v).mbr = s.mbr := rfl
@[simp] theorem State.setC_sp : (s.setC v).sp = s.sp := rfl
@[simp] theorem State.setC_lv : (s.setC v).lv = s.lv := rfl
@[simp] theorem State.setC_cpp : (s.setC v).cpp = s.cpp := rfl
@[simp] theorem State.setC_tos : (s.setC v).tos = s.tos := rfl
@[simp] theorem State.setC_opc : (s.setC v).opc = s.opc := rfl
@[simp] theorem State.setC_h : (s.setC v).h = s.h := rfl
@[simp] theorem State.setC_mpc : (s.setC v).mpc = s.mpc := rfl
@[simp] theorem State.setC_n : (s.setC v).n = s.n := rfl
@[simp] theorem State.setC_z : (s.setC v).z = s.z := rfl
@[simp] theorem State.setC_b : (s.setC v).b = s.b := rfl
@[simp] theorem State.setC_c : (s.setC v).c = v := rfl
@[simp] theorem State.setC_mir : (s.setC v).mir = s.mir := rfl
@[simp] theorem State.setC_status : (s.setC v).status = s.status := rfl
@[simp] theorem State.setC_mem : (s.setC v).mem = s.mem := rfl
@[simp] theorem State.setC_cs : (s.setC v).cs = s.cs := rfl
@[simp] theorem State.setC_aluOut : (s.setC v).aluOut = s.aluOut := rfl
end

section
variable (s : State) (v : MicroWord)
@[simp] theorem State.setMir_mar : (s.setMir v).mar = s.mar := rfl
@[simp] theorem State.setMir_mdr : (s.setMir v).mdr = s.mdr := rfl
@[simp] theorem State.setMir_pc : (s.setMir v).pc = s.pc := rfl
@[simp] theorem State.setMir_mbr : (s.setMir v).mbr = s.mbr := rfl
@[simp] theorem State.setMir_sp : (s.setMir v).sp = s.sp := rfl
@[simp] theorem State.setMir_lv : (s.setMir v).lv = s.lv := rfl
@[simp] theorem State.setMir_cpp : (s.setMir v).cpp = s.cpp := rfl
@[simp] theorem State.setMir_tos : (s.setMir v).tos = s.tos := rfl
@[simp] theorem State.setMir_opc : (s.setMir v).opc = s.opc := rfl
@[simp] theorem State.setMir_h : (s.setMir v).h = s.h := rfl
@[simp] theorem State.setMir_mpc : (s.setMir v).mpc = s.mpc := rfl
@[simp] theorem State.setMir_n : (s.setMir v).n = s.n := rfl
@[simp] theorem State.setMir_z : (s.setMir v).z = s.z := rfl
@[simp] theorem State.setMir_b : (s.setMir v).b = s.b := rfl
@[simp] theorem State.setMir_c : (s.setMir v).c = s.c := rfl
@[simp] theorem State.setMir_mir : (s.setMir v).mir = v := rfl
@[simp] theorem State.setMir_status : (s.setMir v).status = s.status := rfl
@[simp] theorem State.setMir_mem : (s.setMir v).mem = s.mem := rfl
@[simp] theorem State.setMir_cs : (s.setMir v).cs = s.cs := rfl
@[simp] theorem State.setMir_aluOut : (s.setMir v).aluOut = s.aluOut := rfl
end

section
variable (s : State) (v : RunStatus)
@[simp] theorem State.setStatus_mar : (s.setStatus v).mar = s.mar := rfl
@[simp] theorem State.setStatus_mdr : (s.setStatus v).mdr = s.mdr := rfl
@[simp] theorem State.setStatus_pc : (s.setStatus v).pc = s.pc := rfl
@[simp] theorem State.setStatus_mbr : (s.setStatus v).mbr = s.mbr := rfl
@[simp] theorem State.setStatus_sp : (s.setStatus v).sp = s.sp := rfl
@[simp] theorem State.setStatus_lv : (s.setStatus v).lv = s.lv := rfl
@[simp] theorem State.setStatus_cpp : (s.setStatus v).cpp = s.cpp := rfl
@[simp] theorem State.setStatus_tos : (s.setStatus v).tos = s.tos := rfl
@[simp] theorem State.setStatus_opc : (s.setStatus v).opc = s.opc := rfl
@[simp] theorem State.setStatus_h : (s.setStatus v).h = s.h := rfl
@[simp] theorem State.setStatus_mpc : (s.setStatus v).mpc = s.mpc := rfl
@[simp] theorem State.setStatus_n : (s.setStatus v).n = s.n := rfl
@[simp] theorem State.setStatus_z : (s.setStatus v).z = s.z := rfl
@[simp] theorem State.setStatus_b : (s.setStatus v).b = s.b := rfl
@[simp] theorem State.setStatus_c : (s.setStatus v).c = s.c := rfl
@[simp] theorem State.setStatus_mir : (s.setStatus v).mir = s.mir := rfl
@[simp] theorem State.setStatus_status : (s.setStatus v).status = v := rfl
@[simp] theorem State.setStatus_mem : (s.setStatus v).mem = s.mem := rfl
@[simp] theorem State.setStatus_cs : (s.setStatus v).cs = s.cs := rfl
@[simp] theorem State.setStatus_aluOut : (s.setStatus v).aluOut = s.aluOut := rfl
end

section
variable (s : State) (v : Memory)
@[simp] theorem State.setMem_mar : (s.setMem v).mar = s.mar := rfl
@[simp] theorem State.setMem_mdr : (s.setMem v).mdr = s.mdr := rfl
@[simp] theorem State.setMem_pc : (s.setMem v).pc = s.pc := rfl
@[simp] theorem State.setMem_mbr : (s.setMem v).mbr = s.mbr := rfl
@[simp] theorem State.setMem_sp : (s.setMem v).sp = s.sp := rfl
@[simp] theorem State.setMem_lv : (s.setMem v).lv = s.lv := rfl
@[simp] theorem State.setMem_cpp : (s.setMem v).cpp = s.cpp := rfl
@[simp] theorem State.setMem_tos : (s.setMem v).tos = s.tos := rfl
@[simp] theorem State.setMem_opc : (s.setMem v).opc = s.opc := rfl
@[simp] theorem State.setMem_h : (s.setMem v).h = s.h := rfl
@[simp] theorem State.setMem_mpc : (s.setMem v).mpc = s.mpc := rfl
@[simp] theorem State.setMem_n : (s.setMem v).n = s.n := rfl
@[simp] theorem State.setMem_z : (s.setMem v).z = s.z := rfl
@[simp] theorem State.setMem_b : (s.setMem v).b = s.b := rfl
@[simp] theorem State.setMem_c : (s.setMem v).c = s.c := rfl
@[simp] theorem State.setMem_mir : (s.setMem v).mir = s.mir := rfl
@[simp] theorem State.setMem_status : (s.setMem v).status = s.status := rfl
@[simp] theorem State.setMem_mem : (s.setMem v).mem = v := rfl
@[simp] theorem State.setMem_cs : (s.setMem v).cs = s.cs := rfl
@[simp] theorem State.setMem_aluOut : (s.setMem v).aluOut = s.aluOut := rfl
end

section
variable (s : State) (v : ControlStore)
@[simp] theorem State.setCs_mar : (s.setCs v).mar = s.mar := rfl
@[simp] theorem State.setCs_mdr : (s.setCs v).mdr = s.mdr := rfl
@[simp] theorem State.setCs_pc : (s.setCs v).pc = s.pc := rfl
@[simp] theorem State.setCs_mbr : (s.setCs v).mbr = s.mbr := rfl
@[simp] theorem State.setCs_sp : (s.setCs v).sp = s.sp := rfl
@[simp] theorem State.setCs_lv : (s.setCs v).lv = s.lv := rfl
@[simp] theorem State.setCs_cpp : (s.setCs v).cpp = s.cpp := rfl
@[simp] theorem State.setCs_tos : (s.setCs v).tos = s.tos := rfl
@[simp] theorem State.setCs_opc : (s.setCs v).opc = s.opc := rfl
@[simp] theorem State.setCs_h : (s.setCs v).h = s.h := rfl
@[simp] theorem State.setCs_mpc : (s.setCs v).mpc = s.mpc := rfl
@[simp] theorem State.setCs_n : (s.setCs v).n = s.n := rfl
@[simp] theorem State.setCs_z : (s.setCs v).z = s.z := rfl
@[simp] theorem State.setCs_b : (s.setCs v).b = s.b := rfl
@[simp] theorem State.setCs_c : (s.setCs v).c = s.c := rfl
@[simp] theorem State.setCs_mir : (s.setCs v).mir = s.mir := rfl
@[simp] theorem State.setCs_status : (s.setCs v).status = s.status := rfl
@[simp] theorem State.setCs_mem : (s.setCs v).mem = s.mem := rfl
@[simp] theorem State.setCs_cs : (s.setCs v).cs = v := rfl
@[simp] theorem State.setCs_aluOut : (s.setCs v).aluOut = s.aluOut := rfl
end

section
variable (s : State) (v : Word)
@[simp] theorem State.setAluOut_mar : (s.setAluOut v).mar = s.mar := rfl
@[simp] theorem State.setAluOut_mdr : (s.setAluOut v).mdr = s.mdr := rfl
@[simp] theorem State.setAluOut_pc : (s.setAluOut v).pc = s.pc := rfl
@[simp] theorem State.setAluOut_mbr : (s.setAluOut v).mbr = s.mbr := rfl
@[simp] theorem State.setAluOut_sp : (s.setAluOut v).sp = s.sp := rfl
@[simp] theorem State.setAluOut_lv : (s.setAluOut v).lv = s.lv := rfl
@[simp] theorem State.setAluOut_cpp : (s.setAluOut v).cpp = s.cpp := rfl
@[simp] theorem State.setAluOut_tos : (s.setAluOut v).tos = s.tos := rfl
@[simp] theorem State.setAluOut_opc : (s.setAluOut v).opc = s.opc := rfl
@[simp] theorem State.setAluOut_h : (s.setAluOut v).h = s.h := rfl
@[simp] theorem State.setAluOut_mpc : (s.setAluOut v).mpc = s.mpc := rfl
@[simp] theorem State.setAluOut_n : (s.setAluOut v).n = s.n := rfl
@[simp] theorem State.setAluOut_z : (s.setAluOut v).z = s.z := rfl
@[simp] theorem State.setAluOut_b : (s.setAluOut v).b = s.b := rfl
@[simp] theorem State.setAluOut_c : (s.setAluOut v).c = s.c := rfl
@[simp] theorem State.setAluOut_mir : (s.setAluOut v).mir = s.mir := rfl
@[simp] theorem State.setAluOut_status : (s.setAluOut v).status = s.status := rfl
@[simp] theorem State.setAluOut_mem : (s.setAluOut v).mem = s.mem := rfl
@[simp] theorem State.setAluOut_cs : (s.setAluOut v).cs = s.cs := rfl
@[simp] theorem State.setAluOut_aluOut : (s.setAluOut v).aluOut = v := rfl
end

section
variable (s : State) (n z : Bool)
@[simp] theorem State.setFlags_mar : (s.setFlags n z).mar = s.mar := rfl
@[simp] theorem State.setFlags_mdr : (s.setFlags n z).mdr = s.mdr := rfl
@[simp] theorem State.setFlags_pc : (s.setFlags n z).pc = s.pc := rfl
@[simp] theorem State.setFlags_mbr : (s.setFlags n z).mbr = s.mbr := rfl
@[simp] theorem State.setFlags_sp : (s.setFlags n z).sp = s.sp := rfl
@[simp] theorem State.setFlags_lv : (s.setFlags n z).lv = s.lv := rfl
@[simp] theorem State.setFlags_cpp : (s.setFlags n z).cpp = s.cpp := rfl
@[simp] theorem State.setFlags_tos : (s.setFlags n z).tos = s.tos := rfl
@[simp] theorem State.setFlags_opc : (s.setFlags n z).opc = s.opc := rfl
@[simp] theorem State.setFlags_h : (s.setFlags n z).h = s.h := rfl
@[simp] theorem State.setFlags_mpc : (s.setFlags n z).mpc = s.mpc := rfl
@[simp] theorem State.setFlags_n : (s.setFlags n z).n = n := rfl
@[simp] theorem State.setFlags_z : (s.setFlags n z).z = z := rfl
@[simp] theorem State.setFlags_b : (s.setFlags n z).b = s.b := rfl
@[simp] theorem State.setFlags_c : (s.setFlags n z).c = s.c := rfl
@[simp] theorem State.setFlags_mir : (s.setFlags n z).mir = s.mir := rfl
@[simp] theorem State.setFlags_status : (s.setFlags n z).status = s.status := rfl
@[simp] theorem State.setFlags_mem : (s.setFlags n z).mem = s.mem := rfl
@[simp] theorem State.setFlags_cs : (s.setFlags n z).cs = s.cs := rfl
@[simp] theorem State.setFlags_aluOut : (s.setFlags n z).aluOut = s.aluOut := rfl
end

section
variable (s : State) (a : Word)
@[simp] theorem State.flagsOf_mar : (s.flagsOf a).mar = s.mar := rfl
@[simp] theorem State.flagsOf_mdr : (s.flagsOf a).mdr = s.mdr := rfl
@[simp] theorem State.flagsOf_pc : (s.flagsOf a).pc = s.pc := rfl
@[simp] theorem State.flagsOf_mbr : (s.flagsOf a).mbr = s.mbr := rfl
@[simp] theorem State.flagsOf_sp : (s.flagsOf a).sp = s.sp := rfl
@[simp] theorem State.flagsOf_lv : (s.flagsOf a).lv = s.lv := rfl
@[simp] theorem State.flagsOf_cpp : (s.flagsOf a).cpp = s.cpp := rfl
@[simp] theorem State.flagsOf_tos : (s.flagsOf a).tos = s.tos := rfl
@[simp] theorem State.flagsOf_opc : (s.flagsOf a).opc = s.opc := rfl
@[simp] theorem State.flagsOf_h : (s.flagsOf a).h = s.h := rfl
@[simp] theorem State.flagsOf_mpc : (s.flagsOf a).mpc = s.mpc := rfl
@[simp] theorem State.flagsOf_n : (s.flagsOf a).n = nonzeroFlag a := rfl
@[simp] theorem State.flagsOf_z : (s.flagsOf a).z = zeroFlag a := rfl
@[simp] theorem State.flagsOf_b : (s.flagsOf a).b = s.b := rfl
@[simp] theorem State.flagsOf_c : (s.flagsOf a).c = s.c := rfl
@[simp] theorem State.flagsOf_mir : (s.flagsOf a).mir = s.mir := rfl
@[simp] theorem State.flagsOf_status : (s.flagsOf a).status = s.status := rfl
@[simp] theorem State.flagsOf_mem : (s.flagsOf a).mem = s.mem := rfl
@[simp] theorem State.flagsOf_cs : (s.flagsOf a).cs = s.cs := rfl
@[simp] theorem State.flagsOf_aluOut : (s.flagsOf a).aluOut = s.aluOut := rfl
end

section
variable (s : State)
@[simp] theorem State.takeFault_mar : s.takeFault.mar = s.mar := rfl
@[simp] theorem State.takeFault_mdr : s.takeFault.mdr = s.mdr := rfl
@[simp] theorem State.takeFault_pc : s.takeFault.pc = s.pc := rfl
@[simp] theorem State.takeFault_mbr : s.takeFault.mbr = s.mbr := rfl
@[simp] theorem State.takeFault_sp : s.takeFault.sp = s.sp := rfl
@[simp] theorem State.takeFault_lv : s.takeFault.lv = s.lv := rfl
@[simp] theorem State.takeFault_cpp : s.takeFault.cpp = s.cpp := rfl
@[simp] theorem State.takeFault_tos : s.takeFault.tos = s.tos := rfl
@[simp] theorem State.takeFault_opc : s.takeFault.opc = s.opc := rfl
@[simp] theorem State.takeFault_h : s.takeFault.h = s.h := rfl
@[simp] theorem State.takeFault_mpc : s.takeFault.mpc = s.mpc := rfl
@[simp] theorem State.takeFault_n : s.takeFault.n = s.n := rfl
@[simp] theorem State.takeFault_z : s.takeFault.z = s.z := rfl
@[simp] theorem State.takeFault_b : s.takeFault.b = s.b := rfl
@[simp] theorem State.takeFault_c : s.takeFault.c = s.c := rfl
@[simp] theorem State.takeFault_mir : s.takeFault.mir = s.mir := rfl
@[simp] theorem State.takeFault_status : s.takeFault.status = .faulted := rfl
@[simp] theorem State.takeFault_mem : s.takeFault.mem = s.mem := rfl
@[simp] theorem State.takeFault_cs : s.takeFault.cs = s.cs := rfl
@[simp] theorem State.takeFault_aluOut : s.takeFault.aluOut = 0 := rfl
end

theorem zeroFlag_eq (a : Word) : zeroFlag a = decide (a = 0) := rfl

theorem nonzeroFlag_eq (a : Word) : nonzeroFlag a = decide (a ≠ 0) := by
  show (!decide (a = 0)) = decide (a ≠ 0)
  simp

/-- The flags of a state are those of its ALU output, and nothing else changes (R170). -/
theorem State.flagsOf_eq (s : State) (a : Word) :
    s.flagsOf a = { s with n := decide (a ≠ 0), z := decide (a = 0) } := by
  rw [State.flagsOf, zeroFlag_eq, nonzeroFlag_eq]
  rfl

end Sys2Proof.Machine
end

