-- ==== Sys2Proof/Laws/Exec.lean ====
section
/-! SUPPORT. Once for each kind of row: everything `exec` can do with it; and what a list of rows does. The later proofs
cite these and do not unfold a meaning. -/

namespace Sys2Proof.Machine

/-- Every B row drives the source its selector value names (R94, R130). -/
theorem exec_rowOfB (b : BitVec 4) (s : State) : exec (rowOfB b) s = .next (s.setB (bSelect b s)) := by
  obtain ⟨k, hk⟩ := b
  interval_cases k <;> rfl

/-- Every OP row puts its function of H and B on the wire and sets both flags from it (R97, R150, R170). -/
theorem exec_rowOfOp (op : BitVec 6) (s : State) :
    exec (rowOfOp op) s = .next ((s.setAluOut (aluOf op s.h s.b)).flagsOf (aluOf op s.h s.b)) := by
  obtain ⟨k, hk⟩ := op
  interval_cases k <;> rfl

/-- Every Shift row latches its function of the ALU output (R98, R175). -/
theorem exec_rowOfShift (sh : BitVec 2) (s : State) :
    exec (rowOfShift sh) s = .next (s.setC (shiftOf sh s.aluOut)) := by
  obtain ⟨k, hk⟩ := sh
  interval_cases k <;> rfl

/-- MEM_FETCH: one of two outcomes (R211). -/
theorem exec_memFetch (s : State) : exec .memFetch s = fetchIf true s := by
  show execMemFetch s = _
  unfold execMemFetch Memory.read1 fetchIf byteInBounds raiseMemoryBounds
  by_cases h : s.pc.toNat < Config.memBytes <;> simp [h]

/-- MEM_READ: one of two outcomes (R212). -/
theorem exec_memRead (s : State) : exec .memRead s = readIf true s := by
  show execMemRead s = _
  unfold execMemRead Memory.read4 readIf wordInBounds raiseMemoryBounds wordOffset
  by_cases h : 4 * s.mar.toNat + 3 < Config.memBytes <;> simp [h]

/-- MEM_WRITE: one of two outcomes (R213). -/
theorem exec_memWrite (s : State) : exec .memWrite s = writeIf true s := by
  show execMemWrite s = _
  unfold execMemWrite Memory.write4 writeIf wordInBounds raiseMemoryBounds wordOffset
  by_cases h : 4 * s.mar.toNat + 3 < Config.memBytes <;> simp [h]

/-! Lists of rows. -/

@[simp] theorem andThen_next (s : State) (k : State → Result) : andThen (.next s) k = k s := rfl

theorem andThen_assoc (r : Result) (k l : State → Result) :
    andThen (andThen r k) l = andThen r fun s => andThen (k s) l := by
  cases r <;> rfl

/-- What an `andThen` that reaches a state went through. -/
theorem andThen_eq_next {r : Result} {k : State → Result} {t : State} :
    andThen r k = .next t ↔ ∃ s, r = .next s ∧ k s = .next t := by
  cases r <;> simp [andThen]

/-- What an `andThen` that faults went through. -/
theorem andThen_eq_fault {r : Result} {k : State → Result} {f : Fault} :
    andThen r k = .fault f ↔ r = .fault f ∨ ∃ s, r = .next s ∧ k s = .fault f := by
  cases r <;> simp [andThen]

theorem runRows_cons (i : Instr) (l : List Instr) (s : State) :
    runRows (i :: l) s = andThen (exec i s) (runRows l) := rfl

theorem runRows_append (l k : List Instr) (s : State) :
    runRows (l ++ k) s = andThen (runRows l s) (runRows k) := by
  induction l generalizing s with
  | nil => rfl
  | cons i l ih =>
    rw [List.cons_append, runRows_cons, runRows_cons, andThen_assoc]
    congr 1
    funext t
    exact ih t

/-- A bit row applies when its bit is 1 (R110). -/
theorem runRows_rowIf (enabled : Bool) (i : Instr) (s : State) :
    runRows (rowIf enabled i) s = if enabled then exec i s else .next s := by
  cases enabled
  · rfl
  · show andThen (exec i s) (runRows []) = exec i s
    cases exec i s <;> rfl

/-- The rows of the Mem mask are the three guarded operations in the order of R214. -/
theorem runRows_rowsOfMem (mem : BitVec 3) (s : State) :
    runRows (rowsOfMem mem) s = andThen (fetchIf (mem.getLsbD 0) s) fun s =>
      andThen (readIf (mem.getLsbD 1) s) (writeIf (mem.getLsbD 2)) := by
  rw [rowsOfMem, List.append_assoc, runRows_append, runRows_rowIf]
  have e0 : (if mem.getLsbD 0 then exec .memFetch s else .next s) = fetchIf (mem.getLsbD 0) s := by
    cases mem.getLsbD 0
    · rfl
    · exact exec_memFetch s
  rw [e0]
  congr 1
  funext s
  rw [runRows_append, runRows_rowIf]
  have e1 : (if mem.getLsbD 1 then exec .memRead s else .next s) = readIf (mem.getLsbD 1) s := by
    cases mem.getLsbD 1
    · rfl
    · exact exec_memRead s
  rw [e1]
  congr 1
  funext s
  rw [runRows_rowIf]
  cases mem.getLsbD 2
  · rfl
  · exact exec_memWrite s

/-- A guarded row that completes. -/
theorem ite_next (p : Bool) (s t : State) :
    (if p = true then (.next t : Result) else .next s) = .next (if p = true then t else s) := by
  cases p <;> rfl

/-- The rows of the Jump mask complete, and change MPC alone (R230). -/
theorem runRows_rowsOfJump (j : BitVec 3) (s : State) : runRows (rowsOfJump j) s = .next (jumpStage j s) := by
  have e (p f : Bool) (s : State) : (if p = true then s.setMpc (s.mpc ||| flagAtBit8 f) else s) =
      s.setMpc (s.mpc ||| if p && f then 0x100#9 else 0) := by
    cases p <;> cases f <;> simp [flagAtBit8, State.setMpc]
  have em (p : Bool) (s : State) : (if p = true then s.setMpc (s.mpc ||| mbrIndex s) else s) =
      s.setMpc (s.mpc ||| if p then s.mbr.setWidth 9 else 0) := by
    cases p <;> simp [mbrIndex, State.setMpc]
  have h0 (s : State) : exec .jamN s = .next (s.setMpc (s.mpc ||| flagAtBit8 s.n)) := rfl
  have h1 (s : State) : exec .jamZ s = .next (s.setMpc (s.mpc ||| flagAtBit8 s.z)) := rfl
  have h2 (s : State) : exec .jmpC s = .next (s.setMpc (s.mpc ||| mbrIndex s)) := rfl
  simp only [rowsOfJump, runRows_append, runRows_rowIf, h0, h1, h2, ite_next, e, em, andThen_next]
  rfl

/-- The rows of the C mask complete: every enabled register receives C, all others keep their value (R190). -/
theorem runRows_rowsOfC (c : BitVec 9) (s : State) : runRows (rowsOfC c) s = .next (fanOut c s) := by
  have e0 (p : Bool) (s : State) : (if p = true then s.setMar s.c else s) = s.setMar (if p then s.c else s.mar) := by
    cases p <;> rfl
  have e1 (p : Bool) (s : State) : (if p = true then s.setMdr s.c else s) = s.setMdr (if p then s.c else s.mdr) := by
    cases p <;> rfl
  have e2 (p : Bool) (s : State) : (if p = true then s.setPc s.c else s) = s.setPc (if p then s.c else s.pc) := by
    cases p <;> rfl
  have e3 (p : Bool) (s : State) : (if p = true then s.setSp s.c else s) = s.setSp (if p then s.c else s.sp) := by
    cases p <;> rfl
  have e4 (p : Bool) (s : State) : (if p = true then s.setLv s.c else s) = s.setLv (if p then s.c else s.lv) := by
    cases p <;> rfl
  have e5 (p : Bool) (s : State) : (if p = true then s.setCpp s.c else s) = s.setCpp (if p then s.c else s.cpp) := by
    cases p <;> rfl
  have e6 (p : Bool) (s : State) : (if p = true then s.setTos s.c else s) = s.setTos (if p then s.c else s.tos) := by
    cases p <;> rfl
  have e7 (p : Bool) (s : State) : (if p = true then s.setOpc s.c else s) = s.setOpc (if p then s.c else s.opc) := by
    cases p <;> rfl
  have e8 (p : Bool) (s : State) : (if p = true then s.setH s.c else s) = s.setH (if p then s.c else s.h) := by
    cases p <;> rfl
  have h0 (s : State) : exec .cMar s = .next (s.setMar s.c) := rfl
  have h1 (s : State) : exec .cMdr s = .next (s.setMdr s.c) := rfl
  have h2 (s : State) : exec .cPc s = .next (s.setPc s.c) := rfl
  have h3 (s : State) : exec .cSp s = .next (s.setSp s.c) := rfl
  have h4 (s : State) : exec .cLv s = .next (s.setLv s.c) := rfl
  have h5 (s : State) : exec .cCpp s = .next (s.setCpp s.c) := rfl
  have h6 (s : State) : exec .cTos s = .next (s.setTos s.c) := rfl
  have h7 (s : State) : exec .cOpc s = .next (s.setOpc s.c) := rfl
  have h8 (s : State) : exec .cH s = .next (s.setH s.c) := rfl
  simp only [rowsOfC, runRows_append, runRows_rowIf, h0, h1, h2, h3, h4, h5, h6, h7, h8, ite_next, e0, e1, e2, e3,
    e4, e5, e6, e7, e8, andThen_next]
  rfl

end Sys2Proof.Machine
end

