-- ==== Sys2Proof/Laws/Loader.lean ====
section
/-! SUPPORT. The laws of the loader: what a run of bytes leaves in main memory, and what the records leave in the control
store (70_reset_and_hazards.md R305, R306). -/

namespace Sys2Proof.Machine

/-- The byte `k` of a run lands at its address plus `k`; every other byte keeps its value (R306). -/
theorem Memory.byteAt_setBytes (m : Memory) (a b : Nat) (l : List Byte) :
    (m.setBytes a l).byteAt b = if a ≤ b ∧ b < a + l.length then l.getD (b - a) 0 else m.byteAt b := by
  induction l generalizing m a with
  | nil => simp only [Memory.setBytes, List.length_nil]; rw [if_neg (by omega)]
  | cons v l ih =>
    rw [Memory.setBytes, ih, List.length_cons]
    by_cases h : a = b
    · subst h
      rw [if_neg (by omega), if_pos (by omega), Memory.byteAt_setByte]
      simp
    · by_cases h' : a + 1 ≤ b ∧ b < a + 1 + l.length
      · rw [if_pos h', if_pos (by omega), show b - a = (b - (a + 1)) + 1 by omega]
        rfl
      · rw [if_neg h', if_neg (by omega), Memory.byteAt_setByte, if_neg (by omega)]

/-- A run of bytes inside the array keeps the canonical form. -/
theorem Memory.wf_setBytes {m : Memory} {a : Nat} (l : List Byte) (ha : a + l.length ≤ Config.memBytes)
    (hm : m.wf = true) : (m.setBytes a l).wf = true := by
  induction l generalizing m a with
  | nil => exact hm
  | cons v l ih =>
    rw [List.length_cons] at ha
    exact ih (by omega) (Memory.wf_setByte v (by omega) hm)

/-- The records of a file are in canonical form. -/
theorem csOfRecords_wf (count i : Nat) (file : List Byte) :
    sparseWf Config.csFill (i + count) i (csOfRecords count i file) = true := by
  induction count generalizing i file with
  | zero => rfl
  | succ count ih =>
    have h := ih (i + 1) (file.drop Config.romRecordBytes)
    rw [show i + 1 + count = i + (count + 1) by omega] at h
    simp only [csOfRecords]
    split
    · exact sparseWf_mono Config.csFill (by omega) h
    · simp [sparseWf, *]

/-- Nothing is listed below the first index. -/
theorem csOfRecords_below (count i k : Nat) (file : List Byte) (h : k < i) :
    sparseGet Config.csFill (csOfRecords count i file) k = Config.csFill := by
  induction count generalizing i file with
  | zero => rfl
  | succ count ih =>
    simp only [csOfRecords]
    split
    · exact ih _ _ (by omega)
    · rw [sparseGet, if_neg (by omega)]
      exact ih _ _ (by omega)

/-- Record `k` of a file is the word at its index plus `k` (R305). -/
theorem csOfRecords_fetch (count i k : Nat) (file : List Byte) (h : k < count) :
    sparseGet Config.csFill (csOfRecords count i file) (i + k) =
      wordOfRecord ((file.drop (Config.romRecordBytes * k)).take Config.romRecordBytes) := by
  induction count generalizing i k file with
  | zero => omega
  | succ count ih =>
    simp only [csOfRecords]
    rcases k with _ | k
    · simp only [Nat.add_zero, Nat.mul_zero, List.drop_zero]
      split
      · rename_i hw
        rw [csOfRecords_below _ _ _ _ (by omega), hw]
      · rw [sparseGet, if_pos rfl]
    · have e := ih (i + 1) k (file.drop Config.romRecordBytes) (by omega)
      rw [List.drop_drop, show Config.romRecordBytes + Config.romRecordBytes * k =
        Config.romRecordBytes * (k + 1) by rw [Nat.mul_succ, Nat.add_comm],
        show i + 1 + k = i + (k + 1) by omega] at e
      split
      · exact e
      · rw [sparseGet, if_neg (by omega)]
        exact e

end Sys2Proof.Machine
end

