-- ==== Sys2Proof/Laws/PerInstr.lean ====
section
/-! SUPPORT. One lemma per row of the opcode table: the row's own word selects the row. -/

namespace Sys2Proof.Laws.RowWord

/-- The word a row contributes decodes to a list that applies the row, and agrees with the row's mask and match of the
opcode table (30_encoding.md R110). -/
def Statement (i : Instr) : Prop :=
  i ∈ decode (encodeRow i) ∧ encodeRow i &&& rowMask i = rowMatch i

theorem bMdr : Statement .bMdr := by unfold Statement; decide
theorem bPc : Statement .bPc := by unfold Statement; decide
theorem bMbrS : Statement .bMbrS := by unfold Statement; decide
theorem bMbrU : Statement .bMbrU := by unfold Statement; decide
theorem bSp : Statement .bSp := by unfold Statement; decide
theorem bLv : Statement .bLv := by unfold Statement; decide
theorem bCpp : Statement .bCpp := by unfold Statement; decide
theorem bTos : Statement .bTos := by unfold Statement; decide
theorem bOpc : Statement .bOpc := by unfold Statement; decide
theorem bOnes9 : Statement .bOnes9 := by unfold Statement; decide
theorem bOnes10 : Statement .bOnes10 := by unfold Statement; decide
theorem bOnes11 : Statement .bOnes11 := by unfold Statement; decide
theorem bOnes12 : Statement .bOnes12 := by unfold Statement; decide
theorem bOnes13 : Statement .bOnes13 := by unfold Statement; decide
theorem bOnes14 : Statement .bOnes14 := by unfold Statement; decide
theorem bOnes15 : Statement .bOnes15 := by unfold Statement; decide
theorem memFetch : Statement .memFetch := by unfold Statement; decide
theorem memRead : Statement .memRead := by unfold Statement; decide
theorem memWrite : Statement .memWrite := by unfold Statement; decide
theorem cMar : Statement .cMar := by unfold Statement; decide
theorem cMdr : Statement .cMdr := by unfold Statement; decide
theorem cPc : Statement .cPc := by unfold Statement; decide
theorem cSp : Statement .cSp := by unfold Statement; decide
theorem cLv : Statement .cLv := by unfold Statement; decide
theorem cCpp : Statement .cCpp := by unfold Statement; decide
theorem cTos : Statement .cTos := by unfold Statement; decide
theorem cOpc : Statement .cOpc := by unfold Statement; decide
theorem cH : Statement .cH := by unfold Statement; decide
theorem aluUndef0 : Statement .aluUndef0 := by unfold Statement; decide
theorem aluUndef1 : Statement .aluUndef1 := by unfold Statement; decide
theorem aluUndef2 : Statement .aluUndef2 := by unfold Statement; decide
theorem aluUndef3 : Statement .aluUndef3 := by unfold Statement; decide
theorem aluUndef4 : Statement .aluUndef4 := by unfold Statement; decide
theorem aluUndef5 : Statement .aluUndef5 := by unfold Statement; decide
theorem aluUndef6 : Statement .aluUndef6 := by unfold Statement; decide
theorem aluUndef7 : Statement .aluUndef7 := by unfold Statement; decide
theorem aluUndef8 : Statement .aluUndef8 := by unfold Statement; decide
theorem aluUndef9 : Statement .aluUndef9 := by unfold Statement; decide
theorem aluUndef10 : Statement .aluUndef10 := by unfold Statement; decide
theorem aluUndef11 : Statement .aluUndef11 := by unfold Statement; decide
theorem aluAnd : Statement .aluAnd := by unfold Statement; decide
theorem aluUndef13 : Statement .aluUndef13 := by unfold Statement; decide
theorem aluUndef14 : Statement .aluUndef14 := by unfold Statement; decide
theorem aluUndef15 : Statement .aluUndef15 := by unfold Statement; decide
theorem aluUndef16 : Statement .aluUndef16 := by unfold Statement; decide
theorem aluOne : Statement .aluOne := by unfold Statement; decide
theorem aluMinusOne : Statement .aluMinusOne := by unfold Statement; decide
theorem aluUndef19 : Statement .aluUndef19 := by unfold Statement; decide
theorem aluB : Statement .aluB := by unfold Statement; decide
theorem aluUndef21 : Statement .aluUndef21 := by unfold Statement; decide
theorem aluUndef22 : Statement .aluUndef22 := by unfold Statement; decide
theorem aluUndef23 : Statement .aluUndef23 := by unfold Statement; decide
theorem aluH : Statement .aluH := by unfold Statement; decide
theorem aluUndef25 : Statement .aluUndef25 := by unfold Statement; decide
theorem aluNotH : Statement .aluNotH := by unfold Statement; decide
theorem aluUndef27 : Statement .aluUndef27 := by unfold Statement; decide
theorem aluOr : Statement .aluOr := by unfold Statement; decide
theorem aluUndef29 : Statement .aluUndef29 := by unfold Statement; decide
theorem aluUndef30 : Statement .aluUndef30 := by unfold Statement; decide
theorem aluUndef31 : Statement .aluUndef31 := by unfold Statement; decide
theorem aluUndef32 : Statement .aluUndef32 := by unfold Statement; decide
theorem aluUndef33 : Statement .aluUndef33 := by unfold Statement; decide
theorem aluUndef34 : Statement .aluUndef34 := by unfold Statement; decide
theorem aluUndef35 : Statement .aluUndef35 := by unfold Statement; decide
theorem aluUndef36 : Statement .aluUndef36 := by unfold Statement; decide
theorem aluUndef37 : Statement .aluUndef37 := by unfold Statement; decide
theorem aluUndef38 : Statement .aluUndef38 := by unfold Statement; decide
theorem aluUndef39 : Statement .aluUndef39 := by unfold Statement; decide
theorem aluUndef40 : Statement .aluUndef40 := by unfold Statement; decide
theorem aluUndef41 : Statement .aluUndef41 := by unfold Statement; decide
theorem aluUndef42 : Statement .aluUndef42 := by unfold Statement; decide
theorem aluUndef43 : Statement .aluUndef43 := by unfold Statement; decide
theorem aluNotB : Statement .aluNotB := by unfold Statement; decide
theorem aluUndef45 : Statement .aluUndef45 := by unfold Statement; decide
theorem aluUndef46 : Statement .aluUndef46 := by unfold Statement; decide
theorem aluUndef47 : Statement .aluUndef47 := by unfold Statement; decide
theorem aluUndef48 : Statement .aluUndef48 := by unfold Statement; decide
theorem aluUndef49 : Statement .aluUndef49 := by unfold Statement; decide
theorem aluUndef50 : Statement .aluUndef50 := by unfold Statement; decide
theorem aluUndef51 : Statement .aluUndef51 := by unfold Statement; decide
theorem aluUndef52 : Statement .aluUndef52 := by unfold Statement; decide
theorem aluBInc : Statement .aluBInc := by unfold Statement; decide
theorem aluBDec : Statement .aluBDec := by unfold Statement; decide
theorem aluUndef55 : Statement .aluUndef55 := by unfold Statement; decide
theorem aluUndef56 : Statement .aluUndef56 := by unfold Statement; decide
theorem aluHInc : Statement .aluHInc := by unfold Statement; decide
theorem aluUndef58 : Statement .aluUndef58 := by unfold Statement; decide
theorem aluNegH : Statement .aluNegH := by unfold Statement; decide
theorem aluAdd : Statement .aluAdd := by unfold Statement; decide
theorem aluAddInc : Statement .aluAddInc := by unfold Statement; decide
theorem aluUndef62 : Statement .aluUndef62 := by unfold Statement; decide
theorem aluBMinusH : Statement .aluBMinusH := by unfold Statement; decide
theorem shNone : Statement .shNone := by unfold Statement; decide
theorem shSll8 : Statement .shSll8 := by unfold Statement; decide
theorem shSrl1 : Statement .shSrl1 := by unfold Statement; decide
theorem shRsvd3 : Statement .shRsvd3 := by unfold Statement; decide
theorem jamN : Statement .jamN := by unfold Statement; decide
theorem jamZ : Statement .jamZ := by unfold Statement; decide
theorem jmpC : Statement .jmpC := by unfold Statement; decide
theorem nextMpc (next : MicroAddr) : Statement (.nextMpc next) := by
  refine ⟨List.mem_append_left _ (List.mem_cons.mpr (.inl ?_)), BitVec.and_zero⟩
  rw [Micro.ofWord]
  congr 1
  show next = BitVec.extractLsb' 27 9 (next.setWidth 36 <<< 27)
  ext i hi
  simp only [BitVec.getElem_extractLsb', BitVec.getLsbD_shiftLeft, BitVec.getLsbD_setWidth]
  rw [Nat.add_sub_cancel_left, BitVec.getLsbD_eq_getElem hi]
  have h : 27 + i < 36 := by omega
  have h' : i < 36 := by omega
  simp [h, h']

end Sys2Proof.Laws.RowWord
end

