-- ==== Sys2Proof/Laws/Pseudocode.lean ====
section
/-! SUPPORT. What the sub-steps of the pseudocode leave in each cell, field by field, so that no later proof unfolds
them. -/

namespace Sys2Proof.Machine

section
variable (c : BitVec 9) (s : State)
@[simp] theorem fanOut_mar : (fanOut c s).mar = if c.getLsbD 0 then s.c else s.mar := rfl
@[simp] theorem fanOut_mdr : (fanOut c s).mdr = if c.getLsbD 1 then s.c else s.mdr := rfl
@[simp] theorem fanOut_pc : (fanOut c s).pc = if c.getLsbD 2 then s.c else s.pc := rfl
@[simp] theorem fanOut_mbr : (fanOut c s).mbr = s.mbr := rfl
@[simp] theorem fanOut_sp : (fanOut c s).sp = if c.getLsbD 3 then s.c else s.sp := rfl
@[simp] theorem fanOut_lv : (fanOut c s).lv = if c.getLsbD 4 then s.c else s.lv := rfl
@[simp] theorem fanOut_cpp : (fanOut c s).cpp = if c.getLsbD 5 then s.c else s.cpp := rfl
@[simp] theorem fanOut_tos : (fanOut c s).tos = if c.getLsbD 6 then s.c else s.tos := rfl
@[simp] theorem fanOut_opc : (fanOut c s).opc = if c.getLsbD 7 then s.c else s.opc := rfl
@[simp] theorem fanOut_h : (fanOut c s).h = if c.getLsbD 8 then s.c else s.h := rfl
@[simp] theorem fanOut_mpc : (fanOut c s).mpc = s.mpc := rfl
@[simp] theorem fanOut_n : (fanOut c s).n = s.n := rfl
@[simp] theorem fanOut_z : (fanOut c s).z = s.z := rfl
@[simp] theorem fanOut_b : (fanOut c s).b = s.b := rfl
@[simp] theorem fanOut_c : (fanOut c s).c = s.c := rfl
@[simp] theorem fanOut_mir : (fanOut c s).mir = s.mir := rfl
@[simp] theorem fanOut_status : (fanOut c s).status = s.status := rfl
@[simp] theorem fanOut_mem : (fanOut c s).mem = s.mem := rfl
@[simp] theorem fanOut_cs : (fanOut c s).cs = s.cs := rfl
@[simp] theorem fanOut_aluOut : (fanOut c s).aluOut = s.aluOut := rfl
end

section
variable (j : BitVec 3) (s : State)
@[simp] theorem jumpStage_mar : (jumpStage j s).mar = s.mar := rfl
@[simp] theorem jumpStage_mdr : (jumpStage j s).mdr = s.mdr := rfl
@[simp] theorem jumpStage_pc : (jumpStage j s).pc = s.pc := rfl
@[simp] theorem jumpStage_mbr : (jumpStage j s).mbr = s.mbr := rfl
@[simp] theorem jumpStage_sp : (jumpStage j s).sp = s.sp := rfl
@[simp] theorem jumpStage_lv : (jumpStage j s).lv = s.lv := rfl
@[simp] theorem jumpStage_cpp : (jumpStage j s).cpp = s.cpp := rfl
@[simp] theorem jumpStage_tos : (jumpStage j s).tos = s.tos := rfl
@[simp] theorem jumpStage_opc : (jumpStage j s).opc = s.opc := rfl
@[simp] theorem jumpStage_h : (jumpStage j s).h = s.h := rfl
@[simp] theorem jumpStage_n : (jumpStage j s).n = s.n := rfl
@[simp] theorem jumpStage_z : (jumpStage j s).z = s.z := rfl
@[simp] theorem jumpStage_b : (jumpStage j s).b = s.b := rfl
@[simp] theorem jumpStage_c : (jumpStage j s).c = s.c := rfl
@[simp] theorem jumpStage_mir : (jumpStage j s).mir = s.mir := rfl
@[simp] theorem jumpStage_status : (jumpStage j s).status = s.status := rfl
@[simp] theorem jumpStage_mem : (jumpStage j s).mem = s.mem := rfl
@[simp] theorem jumpStage_cs : (jumpStage j s).cs = s.cs := rfl
@[simp] theorem jumpStage_aluOut : (jumpStage j s).aluOut = s.aluOut := rfl

theorem jumpStage_mpc : (jumpStage j s).mpc = s.mpc ||| (if j.getLsbD 0 && s.n then 0x100#9 else 0) |||
    (if j.getLsbD 1 && s.z then 0x100#9 else 0) ||| (if j.getLsbD 2 then s.mbr.setWidth 9 else 0) := rfl
end

/-! The state between the fan-out and the memory operations. -/

section
variable (s : State)

/-- Neither the fields, nor the ALU output, depend on the wire. -/
@[simp] theorem nextMicro_setAluOut (a : Word) : nextMicro (s.setAluOut a) = nextMicro s := rfl

theorem bSelect_latched (b : BitVec 4) (w : MicroWord) (next : MicroAddr) :
    bSelect b ((s.setMir w).setMpc next) = bSelect b s := rfl

/-- Sub-steps 1 to 5 in one: every value is of the start of the cycle (R251). -/
theorem beforeMemory_eq : beforeMemory s = fanOut (nextMicro s).c
    ((((((s.setMir (ControlStore.fetch s.cs s.mpc.toNat)).setMpc (nextMicro s).next).setB
      (bSelect (nextMicro s).b s)).setFlags (decide (nextAlu s ≠ 0)) (decide (nextAlu s = 0))).setC
      (shiftOf (nextMicro s).sh (nextAlu s)))) := by
  unfold beforeMemory nextAlu
  simp only [bSelect_latched, State.setB_h, State.setB_b, State.setMpc_h, State.setMir_h]
  rfl

@[simp] theorem beforeMemory_mar : (beforeMemory s).mar =
    if (nextMicro s).c.getLsbD 0 then shiftOf (nextMicro s).sh (nextAlu s) else s.mar := by simp [beforeMemory_eq]
@[simp] theorem beforeMemory_mdr : (beforeMemory s).mdr =
    if (nextMicro s).c.getLsbD 1 then shiftOf (nextMicro s).sh (nextAlu s) else s.mdr := by simp [beforeMemory_eq]
@[simp] theorem beforeMemory_pc : (beforeMemory s).pc =
    if (nextMicro s).c.getLsbD 2 then shiftOf (nextMicro s).sh (nextAlu s) else s.pc := by simp [beforeMemory_eq]
@[simp] theorem beforeMemory_mbr : (beforeMemory s).mbr = s.mbr := by simp [beforeMemory_eq]
@[simp] theorem beforeMemory_sp : (beforeMemory s).sp =
    if (nextMicro s).c.getLsbD 3 then shiftOf (nextMicro s).sh (nextAlu s) else s.sp := by simp [beforeMemory_eq]
@[simp] theorem beforeMemory_lv : (beforeMemory s).lv =
    if (nextMicro s).c.getLsbD 4 then shiftOf (nextMicro s).sh (nextAlu s) else s.lv := by simp [beforeMemory_eq]
@[simp] theorem beforeMemory_cpp : (beforeMemory s).cpp =
    if (nextMicro s).c.getLsbD 5 then shiftOf (nextMicro s).sh (nextAlu s) else s.cpp := by simp [beforeMemory_eq]
@[simp] theorem beforeMemory_tos : (beforeMemory s).tos =
    if (nextMicro s).c.getLsbD 6 then shiftOf (nextMicro s).sh (nextAlu s) else s.tos := by simp [beforeMemory_eq]
@[simp] theorem beforeMemory_opc : (beforeMemory s).opc =
    if (nextMicro s).c.getLsbD 7 then shiftOf (nextMicro s).sh (nextAlu s) else s.opc := by simp [beforeMemory_eq]
@[simp] theorem beforeMemory_h : (beforeMemory s).h =
    if (nextMicro s).c.getLsbD 8 then shiftOf (nextMicro s).sh (nextAlu s) else s.h := by simp [beforeMemory_eq]
@[simp] theorem beforeMemory_mpc : (beforeMemory s).mpc = (nextMicro s).next := by simp [beforeMemory_eq]
@[simp] theorem beforeMemory_n : (beforeMemory s).n = decide (nextAlu s ≠ 0) := by simp [beforeMemory_eq]
@[simp] theorem beforeMemory_z : (beforeMemory s).z = decide (nextAlu s = 0) := by simp [beforeMemory_eq]
@[simp] theorem beforeMemory_b : (beforeMemory s).b = bSelect (nextMicro s).b s := by simp [beforeMemory_eq]
@[simp] theorem beforeMemory_c : (beforeMemory s).c = shiftOf (nextMicro s).sh (nextAlu s) := by simp [beforeMemory_eq]
@[simp] theorem beforeMemory_mir : (beforeMemory s).mir = ControlStore.fetch s.cs s.mpc.toNat := by simp [beforeMemory_eq]
@[simp] theorem beforeMemory_status : (beforeMemory s).status = s.status := by simp [beforeMemory_eq]
@[simp] theorem beforeMemory_mem : (beforeMemory s).mem = s.mem := by simp [beforeMemory_eq]
@[simp] theorem beforeMemory_cs : (beforeMemory s).cs = s.cs := by simp [beforeMemory_eq]
@[simp] theorem beforeMemory_aluOut : (beforeMemory s).aluOut = s.aluOut := by simp [beforeMemory_eq]

theorem beforeMemory_setAluOut (a : Word) : beforeMemory (s.setAluOut a) = (beforeMemory s).setAluOut a := by
  rw [beforeMemory_eq, beforeMemory_eq]; rfl
end

end Sys2Proof.Machine
end

