-- ==== Sys2Proof/Tests/Slice0.lean ====
section
/-! SUPPORT. Tests: expected results from spec/95_test_vectors.md (the vector's id stands in each name or comment), and a
witness for the hypotheses of every obligation. -/

namespace Sys2Proof.Tests

open Sys2Proof.Machine

/-! Helpers. -/

/-- A state whose next cycle latches the word. -/
def loaded (w : MicroWord) (s : State) : State := { s with cs := ControlStore.place [] s.mpc.toNat w }

/-- The state after one step, where it completes. -/
def after (s : State) : Option State :=
  match step s with
  | .next t => some t
  | _ => none

/-- The fault of one step, where it faults. -/
def faultOf (s : State) : Option Fault :=
  match step s with
  | .fault f => some f
  | _ => none

/-- The state after one row. -/
def rowAfter (i : Instr) (s : State) : Option State :=
  match exec i s with
  | .next t => some t
  | _ => none

/-- The state after two steps. -/
def after2 (s : State) : Option State := (after s).bind after

theorem ran {s : State} (h : (after s).isSome = true) : ∃ t, step s = .next t := by
  unfold after at h
  split at h
  · exact ⟨_, ‹_›⟩
  · cases h

theorem ranRow {i : Instr} {s : State} (h : (rowAfter i s).isSome = true) : ∃ t, exec i s = .next t := by
  unfold rowAfter at h
  split at h
  · exact ⟨_, ‹_›⟩
  · cases h

theorem faulted {s : State} {f : Fault} (h : faultOf s = some f) : step s = .fault f := by
  unfold faultOf at h
  split at h
  · cases h; assumption
  · cases h

/-- The start state of 2.2, its register values moved into place; TOS and MBR at the boundary values. -/
def regs : State := { State.reset with
  mar := 0xA0000001, mdr := 0xA0000002, pc := 0xA0000003, mbr := 0x9C, sp := 0xA0000004, lv := 0xA0000005,
  cpp := 0xA0000006, tos := 0xA0000007, opc := 0xA0000008, h := 0xA0000009 }

/-- The start state of the memory rows of 2.6. -/
def memStart : State := { State.reset with
  mar := 0x10, mdr := 0xDEADBEEF, pc := 7, mem := [(7, 0xC3), (0x40, 0x11), (0x41, 0x22), (0x42, 0x33), (0x43, 0x44)] }

/-- Reset but for the ALU's operands. -/
def operands (h b : Word) : State := { State.reset with h := h, b := b }

/-- The output and both flags of an OP row. -/
def alu (i : Instr) (h b : Word) : Option (Word × Bool × Bool) :=
  (rowAfter i (operands h b)).map fun t => (t.aluOut, t.z, t.n)

/-! WellFormed: one ill-formed list for each check, which that check refuses. -/

theorem test_wellFormed_zero_word : wellFormed [.nextMpc 0, .bMdr, .aluUndef0, .shNone] = true := by decide
theorem test_no_next : hasOneNext [.bMdr, .aluB, .shNone] = false ∧ wellFormed [.bMdr, .aluB, .shNone] = false := by
  decide
theorem test_two_b : hasOneB [.nextMpc 0, .bMdr, .bPc, .aluB, .shNone] = false ∧
    wellFormed [.nextMpc 0, .bMdr, .bPc, .aluB, .shNone] = false := by decide
theorem test_no_alu : hasOneAlu [.nextMpc 0, .bMdr, .shNone] = false ∧
    wellFormed [.nextMpc 0, .bMdr, .shNone] = false := by decide
theorem test_no_shift : hasOneShift [.nextMpc 0, .bMdr, .aluB] = false ∧
    wellFormed [.nextMpc 0, .bMdr, .aluB] = false := by decide
theorem test_out_of_order : inCycleOrder [.nextMpc 0, .bMdr, .aluB, .shNone, .memRead, .memFetch] = false ∧
    wellFormed [.nextMpc 0, .bMdr, .aluB, .shNone, .memRead, .memFetch] = false := by decide
theorem test_bit_twice : inCycleOrder [.nextMpc 0, .bMdr, .aluB, .shNone, .cH, .cH] = false := by decide

/-! Decoding: every row from a word written out from the encoding tables (R94 to R100). -/

theorem test_decode_b0 : [0x0, 0x1, 0x2, 0x3, 0x4, 0x5, 0x6, 0x7].map (decodeTableWord 40) =
    [some .bMdr, some .bPc, some .bMbrS, some .bMbrU, some .bSp, some .bLv, some .bCpp, some .bTos] := by decide
theorem test_decode_b1 : [0x8, 0x9, 0xA, 0xB, 0xC, 0xD, 0xE, 0xF].map (decodeTableWord 40) =
    [some .bOpc, some .bOnes9, some .bOnes10, some .bOnes11, some .bOnes12, some .bOnes13, some .bOnes14, some .bOnes15] := by decide
theorem test_decode_alu0 : [0x010000, 0x020000, 0x030000, 0x040000, 0x050000, 0x060000, 0x070000, 0x080000].map (decodeTableWord 40) =
    [some .aluUndef1, some .aluUndef2, some .aluUndef3, some .aluUndef4, some .aluUndef5, some .aluUndef6, some .aluUndef7, some .aluUndef8] := by decide
theorem test_decode_alu1 : [0x090000, 0x0A0000, 0x0B0000, 0x0C0000, 0x0D0000, 0x0E0000, 0x0F0000, 0x100000].map (decodeTableWord 40) =
    [some .aluUndef9, some .aluUndef10, some .aluUndef11, some .aluAnd, some .aluUndef13, some .aluUndef14, some .aluUndef15, some .aluUndef16] := by decide
theorem test_decode_alu2 : [0x110000, 0x120000, 0x130000, 0x140000, 0x150000, 0x160000, 0x170000, 0x180000].map (decodeTableWord 40) =
    [some .aluOne, some .aluMinusOne, some .aluUndef19, some .aluB, some .aluUndef21, some .aluUndef22, some .aluUndef23, some .aluH] := by decide
theorem test_decode_alu3 : [0x190000, 0x1A0000, 0x1B0000, 0x1C0000, 0x1D0000, 0x1E0000, 0x1F0000, 0x200000].map (decodeTableWord 40) =
    [some .aluUndef25, some .aluNotH, some .aluUndef27, some .aluOr, some .aluUndef29, some .aluUndef30, some .aluUndef31, some .aluUndef32] := by decide
theorem test_decode_alu4 : [0x210000, 0x220000, 0x230000, 0x240000, 0x250000, 0x260000, 0x270000, 0x280000].map (decodeTableWord 40) =
    [some .aluUndef33, some .aluUndef34, some .aluUndef35, some .aluUndef36, some .aluUndef37, some .aluUndef38, some .aluUndef39, some .aluUndef40] := by decide
theorem test_decode_alu5 : [0x290000, 0x2A0000, 0x2B0000, 0x2C0000, 0x2D0000, 0x2E0000, 0x2F0000, 0x300000].map (decodeTableWord 40) =
    [some .aluUndef41, some .aluUndef42, some .aluUndef43, some .aluNotB, some .aluUndef45, some .aluUndef46, some .aluUndef47, some .aluUndef48] := by decide
theorem test_decode_alu6 : [0x310000, 0x320000, 0x330000, 0x340000, 0x350000, 0x360000, 0x370000, 0x380000].map (decodeTableWord 40) =
    [some .aluUndef49, some .aluUndef50, some .aluUndef51, some .aluUndef52, some .aluBInc, some .aluBDec, some .aluUndef55, some .aluUndef56] := by decide
theorem test_decode_alu7 : [0x390000, 0x3A0000, 0x3B0000, 0x3C0000, 0x3D0000, 0x3E0000, 0x3F0000].map (decodeTableWord 40) =
    [some .aluHInc, some .aluUndef58, some .aluNegH, some .aluAdd, some .aluAddInc, some .aluUndef62, some .aluBMinusH] := by decide
/-- OP 0 beside the row B_PC: the word 1. -/
theorem test_decode_undef0 : decode 0x000000001#36 = [.nextMpc 0, .bPc, .aluUndef0, .shNone] := by decide
theorem test_decode_mem0 : [0x10, 0x20, 0x40].map (decodeTableWord 40) =
    [some .memFetch, some .memRead, some .memWrite] := by decide
theorem test_decode_c0 : [0x80, 0x100, 0x200, 0x400, 0x800, 0x1000, 0x2000, 0x4000, 0x8000].map (decodeTableWord 40) =
    [some .cMar, some .cMdr, some .cPc, some .cSp, some .cLv, some .cCpp, some .cTos, some .cOpc, some .cH] := by decide
theorem test_decode_shift0 : [0x400000, 0x800000, 0xC00000].map (decodeTableWord 40) =
    [some .shSll8, some .shSrl1, some .shRsvd3] := by decide
theorem test_decode_jump0 : [0x1000000, 0x2000000, 0x4000000].map (decodeTableWord 40) =
    [some .jamN, some .jamZ, some .jmpC] := by decide
theorem test_decode_next : [0x8000000, 0x800000000, 0xFF8000000].map (decodeTableWord 40) =
    [some (.nextMpc 0x001), some (.nextMpc 0x100), some (.nextMpc 0x1FF)] := by decide
/-- T22. -/
theorem test_T22 : decode 0x123456789#36 = [.nextMpc 0x024, .bOnes9, .aluUndef5, .shSll8, .cMar, .cMdr, .cPc, .cSp,
    .cTos, .cOpc, .jamN, .jamZ] := by decide
theorem test_T21_encode : encode [.nextMpc 0x0B4, .bLv, .aluUndef37, .shSrl1, .cMar, .cMdr, .cSp, .cTos, .cH, .memRead,
    .jamN, .jmpC] = 0x5A5A5A5A5#36 := by decide
theorem test_T23_T24 : wordOfRecord [0x11, 0x02, 0x35, 0x04, 0x08, 0, 0, 0] = 0x804350211#36 ∧
    wordOfRecord [0x11, 0x02, 0x35, 0x04, 0xF8, 0xFF, 0xFF, 0xFF] = 0x804350211#36 := by decide
theorem test_T25_T26_T27 : wordOfRecord [0xFF, 0xFF, 0xFF, 0xFF, 0xFF, 0xFF, 0xFF, 0xFF] = 0xFFFFFFFFF#36 ∧
    wordOfRecord [0, 0, 0, 0, 0x10, 0, 0, 0] = 0x000000000#36 ∧
    wordOfRecord [0xEF, 0xCD, 0xAB, 0x89, 0x67, 0x45, 0x23, 0x01] = 0x789ABCDEF#36 := by decide
theorem test_record_of_seven_bytes : decodeRecord [0, 0, 0, 0, 0, 0, 0] = .error (.notARecord 7) := by rfl

/-! The source's scenarios, E19 to E24. -/

theorem test_E19 : (after (loaded 0x000510100 .reset)).map (fun t => (t.mdr, t.z, t.n, t.mpc)) =
    some (0x100, false, true, 0) := by decide
theorem test_E20 : (after (loaded 0x000148002 { State.reset with mbr := 0xFF })).map (fun t => (t.h, t.b, t.c)) =
    some (0xFFFFFFFF, 0xFFFFFFFF, 0xFFFFFFFF) := by decide
theorem test_E21 : (after (loaded 0x000350291 { State.reset with pc := 0x401, mem := [(0x401, 0x42), (0x402, 0x99)] })).map
    (fun t => (t.pc, t.mar, t.mbr)) = some (0x402, 0x402, 0x99) := by decide
theorem test_E22 : (after (loaded 0x000000040 { State.reset with mar := 0x10, mdr := 0xDEADBEEF })).map (fun t => t.mem) =
    some [(0x40, 0xEF), (0x41, 0xBE), (0x42, 0xAD), (0x43, 0xDE)] := by decide
theorem test_E23 : (after (loaded 0x0523F0005 { State.reset with lv := 5, h := 5 })).map (fun t => (t.z, t.mpc, t.h)) =
    some (true, 0x10A, 5) := by decide
theorem test_E24 : (after (loaded 0x000000100 { State.reset with mdr := 0x1234 })).map
    (fun t => (t.mdr, t.z, t.n, t.b)) = some (0, true, false, 0x1234) := by decide

/-! The B-bus, 2.2. -/

theorem test_T28_to_T43 : [.bMdr, .bPc, .bMbrS, .bMbrU, .bSp, .bLv, .bCpp, .bTos, .bOpc, .bOnes9, .bOnes10, .bOnes11, .bOnes12, .bOnes13, .bOnes14, .bOnes15].map
    (fun i => (rowAfter i regs).map fun t => t.b) = [some 0xA0000002, some 0xA0000003, some 0xFFFFFF9C, some 0x0000009C, some 0xA0000004, some 0xA0000005, some 0xA0000006, some 0xA0000007, some 0xA0000008, some 0xFFFFFFFF, some 0xFFFFFFFF, some 0xFFFFFFFF, some 0xFFFFFFFF, some 0xFFFFFFFF, some 0xFFFFFFFF, some 0xFFFFFFFF] := by decide
theorem test_T46_T47 : (rowAfter .bMbrS { regs with mbr := 0x7F }).map (fun t => t.b) = some 0x7F ∧
    (rowAfter .bMbrS { regs with mbr := 0x80 }).map (fun t => t.b) = some 0xFFFFFF80 ∧
    (rowAfter .bMbrU { regs with mbr := 0x80 }).map (fun t => t.b) = some 0x80 := by decide

/-! The ALU, 2.3: output, Z, N. -/

theorem test_T50 : alu .aluAnd 0x12345678 0x0F0F0F0F = some (0x02040608, false, true) ∧
    alu .aluAnd 0x0 0x80000000 = some (0x0, true, false) := by decide
theorem test_T51 : alu .aluOne 0x5 0x5 = some (0x1, false, true) ∧
    alu .aluOne 0x0 0x0 = some (0x1, false, true) := by decide
theorem test_T52 : alu .aluMinusOne 0x5 0x5 = some (0xFFFFFFFF, false, true) ∧
    alu .aluMinusOne 0x0 0x0 = some (0xFFFFFFFF, false, true) := by decide
theorem test_T53 : alu .aluB 0xFFFFFFFF 0x1 = some (0x1, false, true) ∧
    alu .aluB 0x0 0x0 = some (0x0, true, false) := by decide
theorem test_T54 : alu .aluH 0xFFFFFFFF 0x1 = some (0xFFFFFFFF, false, true) ∧
    alu .aluH 0x0 0x80000000 = some (0x0, true, false) := by decide
theorem test_T55 : alu .aluNotH 0x12345678 0x0F0F0F0F = some (0xEDCBA987, false, true) ∧
    alu .aluNotH 0xFFFFFFFF 0x1 = some (0x0, true, false) := by decide
theorem test_T56 : alu .aluOr 0x12345678 0x0F0F0F0F = some (0x1F3F5F7F, false, true) ∧
    alu .aluOr 0x0 0x0 = some (0x0, true, false) := by decide
theorem test_T57 : alu .aluNotB 0x12345678 0x0F0F0F0F = some (0xF0F0F0F0, false, true) ∧
    alu .aluNotB 0x1 0xFFFFFFFF = some (0x0, true, false) := by decide
theorem test_T58 : alu .aluBInc 0x12345678 0x0F0F0F0F = some (0x0F0F0F10, false, true) ∧
    alu .aluBInc 0x1 0xFFFFFFFF = some (0x0, true, false) := by decide
theorem test_T59 : alu .aluBDec 0x0 0x0 = some (0xFFFFFFFF, false, true) ∧
    alu .aluBDec 0x7FFFFFFF 0x1 = some (0x0, true, false) := by decide
theorem test_T60 : alu .aluHInc 0x7FFFFFFF 0x1 = some (0x80000000, false, true) ∧
    alu .aluHInc 0xFFFFFFFF 0x1 = some (0x0, true, false) := by decide
theorem test_T61 : alu .aluNegH 0x5 0x5 = some (0xFFFFFFFB, false, true) ∧
    alu .aluNegH 0x80000000 0x80000000 = some (0x80000000, false, true) := by decide
theorem test_T62 : alu .aluAdd 0x12345678 0x0F0F0F0F = some (0x21436587, false, true) ∧
    alu .aluAdd 0x80000000 0x80000000 = some (0x0, true, false) := by decide
theorem test_T63 : alu .aluAddInc 0x12345678 0x0F0F0F0F = some (0x21436588, false, true) ∧
    alu .aluAddInc 0xFFFFFFFF 0xFFFFFFFF = some (0xFFFFFFFF, false, true) := by decide
theorem test_T64 : alu .aluBMinusH 0x12345678 0x0F0F0F0F = some (0xFCDAB897, false, true) ∧
    alu .aluBMinusH 0x1 0xFFFFFFFF = some (0xFFFFFFFE, false, true) := by decide
theorem test_T65 : ∀ i ∈ ([.aluUndef0, .aluUndef1, .aluUndef2, .aluUndef3, .aluUndef4, .aluUndef5, .aluUndef6, .aluUndef7, .aluUndef8,
    .aluUndef9, .aluUndef10, .aluUndef11, .aluUndef13, .aluUndef14, .aluUndef15, .aluUndef16, .aluUndef19, .aluUndef21,
    .aluUndef22, .aluUndef23, .aluUndef25, .aluUndef27, .aluUndef29, .aluUndef30, .aluUndef31, .aluUndef32, .aluUndef33,
    .aluUndef34, .aluUndef35, .aluUndef36, .aluUndef37, .aluUndef38, .aluUndef39, .aluUndef40, .aluUndef41, .aluUndef42,
    .aluUndef43, .aluUndef45, .aluUndef46, .aluUndef47, .aluUndef48, .aluUndef49, .aluUndef50, .aluUndef51, .aluUndef52,
    .aluUndef55, .aluUndef56, .aluUndef58, .aluUndef62] : List Instr),
    alu i 0x12345678 0x0F0F0F0F = some (0, true, false) := by decide

/-! The shifter, 2.4. -/

theorem test_T71_T79 : (rowAfter .shSll8 { State.reset with aluOut := 0x00FFFFFF }).map (fun t => t.c) = some 0xFFFFFF00 ∧
    (rowAfter .shSll8 { State.reset with aluOut := 0x12345678 }).map (fun t => t.c) = some 0x34567800 := by decide
theorem test_T73_T80 : (rowAfter .shSrl1 { State.reset with aluOut := 0xFFFFFFFF }).map (fun t => t.c) = some 0x7FFFFFFF ∧
    (rowAfter .shSrl1 { State.reset with aluOut := 0x12345678 }).map (fun t => t.c) = some 0x091A2B3C := by decide
theorem test_T66_T76 : (rowAfter .shNone { State.reset with aluOut := 1 }).map (fun t => t.c) = some 1 ∧
    (rowAfter .shRsvd3 { State.reset with aluOut := 0xDEADBEEF }).map (fun t => t.c) = some 0xDEADBEEF := by decide
theorem test_T82 : (after (loaded 0x102542007 { State.reset with tos := 0x01000000 })).map
    (fun t => (t.tos, t.mpc, t.z, t.aluOut)) = some (0, 0x020, false, 0) := by decide

/-! The fan-out, 2.5. -/

theorem test_T95_T96 : (after (loaded 0x000145503 regs)).map
      (fun t => ([t.mar, t.mdr, t.pc, t.sp, t.lv], [t.cpp, t.tos, t.opc, t.h])) =
      some ([0xA0000001, 0x9C, 0xA0000003, 0x9C, 0xA0000005], [0x9C, 0xA0000007, 0x9C, 0xA0000009]) ∧
    (after (loaded 0x00014AA83 regs)).map (fun t => ([t.mar, t.mdr, t.pc, t.sp, t.lv], [t.cpp, t.tos, t.opc, t.h])) =
      some ([0x9C, 0xA0000002, 0x9C, 0xA0000004, 0x9C], [0xA0000006, 0x9C, 0xA0000008, 0x9C]) := by decide
theorem test_T98 : (after (loaded 0x000362007 .reset)).map (fun t => (t.tos, t.c)) = some (0xFFFFFFFF, 0xFFFFFFFF) := by
  decide
theorem test_T99 : (after (loaded 0x0003CC008 { State.reset with h := 0xFFFFFFFF, opc := 2 })).map
    (fun t => (t.opc, t.h, t.b)) = some (1, 1, 2) := by decide

/-! Memory, 2.6. -/

theorem test_T101 : (rowAfter .memFetch memStart).map (fun t => t.mbr) = some 0xC3 := by decide
theorem test_T102 : (rowAfter .memRead memStart).map (fun t => t.mdr) = some 0x44332211 := by decide
theorem test_T105 : (after (loaded 0x000000050 memStart)).map (fun t => (t.mbr, t.mdr, t.mem)) =
    some (0xC3, 0xDEADBEEF, [(7, 0xC3), (0x40, 0xEF), (0x41, 0xBE), (0x42, 0xAD), (0x43, 0xDE)]) := by decide
theorem test_T107 : (after (loaded 0x000000070 memStart)).map (fun t => (t.mbr, t.mdr, t.mem)) =
    some (0xC3, 0x44332211, memStart.mem) := by decide
theorem test_T108_T109 : (after (loaded 0x000120140 memStart)).map (fun t => (t.mdr, t.mem.wordAt 0x40)) =
      some (0xFFFFFFFF, 0xFFFFFFFF) ∧
    (after (loaded 0x000120120 memStart)).map (fun t => (t.mdr, t.c)) = some (0x44332211, 0xFFFFFFFF) := by decide
/-- The state of T110. -/
def t110 : State := loaded 0x000350251 { State.reset with mar := 0x10, mdr := 0xCAFEF00D, pc := 0x40, mem := [(0x41, 0x22)] }
theorem test_T110 : (after t110).map (fun t => (t.pc, t.mbr, t.mem)) =
    some (0x41, 0x22, [(0x40, 0x0D), (0x41, 0xF0), (0x42, 0xFE), (0x43, 0xCA)]) := by decide
theorem test_T111 : (after (loaded 0x0001400A0 { State.reset with
    mdr := 0x20, mem := [(0x80, 0x78), (0x81, 0x56), (0x82, 0x34), (0x83, 0x12)] })).map (fun t => (t.mar, t.mdr)) =
    some (0x20, 0x12345678) := by decide
/-- T113 to T118: the read at both ends of main memory; the offset is not reduced modulo 2^32. -/
theorem test_T113_T116_T118 : (after (loaded 0x000000020 { State.reset with mar := 0x017D783F })).isSome = true ∧
    faultOf (loaded 0x000000020 { State.reset with mar := 0x40000000 }) = some (.memoryBounds .read 0x100000000) ∧
    faultOf (loaded 0x000000020 { State.reset with mar := 0xFFFFFFFF }) = some (.memoryBounds .read 0x3FFFFFFFC) := by
  decide
theorem test_T119_T120 : (after (loaded 0x000000040 { State.reset with mar := 0x017D783F })).isSome = true ∧
    faultOf (loaded 0x000000040 { State.reset with mar := 0x017D7840 }) = some (.memoryBounds .write 0x5F5E100) := by
  decide
theorem test_T124_T125 : (after (loaded 0x000000010 { State.reset with pc := 0x05F5E0FF })).isSome = true ∧
    faultOf (loaded 0x000000010 { State.reset with pc := 0x05F5E100 }) = some (.memoryBounds .fetch 0x5F5E100) := by
  decide
theorem test_T127 : faultOf (loaded 0x000000070 { State.reset with pc := 100000000, mar := 25000000 }) =
    some (.memoryBounds .fetch 0x5F5E100) := by decide
/-- The state of T128: the fetch completes, the read faults. -/
def t128 : State := loaded 0x000000030 { State.reset with pc := 5, mar := 25000000, mem := [(5, 0xAB)] }
theorem test_T128 : faultOf t128 = some (.memoryBounds .read 0x5F5E100) ∧
    t128.stopped.map (fun u => (u.mbr, u.status, u.z)) = some (0xAB, .faulted, true) := by decide
/-- P4: the fan-out and the latches are committed, the machine is FAULTED and performs no further cycle. -/
theorem test_P4 : (loaded 0x0081200E0 .reset).stopped.map (fun u => (u.mar, u.mpc, u.c, u.status)) =
      some (0xFFFFFFFF, 0x001, 0xFFFFFFFF, .faulted) ∧
    (loaded 0x0081200E0 .reset).stopped.bind faultOf = some .machineFaulted := by decide

/-! The jump stage, 2.7. -/

/-- The words of T129 to T136: NextMPC 0x042 and a Jump field, the flags made by TOS. -/
def jump (j : BitVec 3) (tos : Word) : Option MicroAddr :=
  (after (loaded (0x210140007 ||| j.setWidth 36 <<< 24) { State.reset with tos := tos, mbr := 0x81 })).map fun t => t.mpc
theorem test_T129_to_T136_zero : [0, 1, 2, 3, 4, 5, 6, 7].map (jump · 0) =
    [0x042, 0x042, 0x142, 0x142, 0x0C3, 0x0C3, 0x1C3, 0x1C3].map some := by decide
theorem test_T129_to_T136_nonzero : [0, 1, 2, 3, 4, 5, 6, 7].map (jump · 7) =
    [0x042, 0x142, 0x042, 0x142, 0x0C3, 0x1C3, 0x0C3, 0x1C3].map some := by decide
theorem test_T138 : (after (loaded 0x784140007 { State.reset with mbr := 0x0F, tos := 7 })).map (fun t => t.mpc) =
    some 0x0FF := by decide
theorem test_T141 : (after (loaded 0x804350211 { State.reset with pc := 0x10, mbr := 0x11, mem := [(0x11, 0xB6)] })).map
    (fun t => t.mpc) = some 0x1B6 := by decide

/-! The loader, 2.8, and reset, 2.9. -/

/-- The program image of T145. -/
def image : List Byte := [0x1A, 0, 0, 0, 0xA0, 0xA1, 0xA2, 0xA3, 0xA4, 0xA5, 0xA6, 0xA7, 0xA8, 0xA9, 0xAA, 0xAB, 0xAC,
  0xAD, 0xAE, 0xAF, 0xB0, 0xB1, 0xB2, 0xB3, 0x10, 0x2A, 0x10, 0x03, 0x60, 0xFF]
/-- What an image leaves in memory, where it loads. -/
def loadedMemory (file : List Byte) : Option Memory := (loadImage [] file).toOption
theorem test_T145 : (loadedMemory image).map (fun m => (m.wordAt 0, m.wordAt 16, m.wordAt 20, m.wordAt 0x400,
    m.wordAt 0x404)) = some (0xA3A2A1A0, 0xB3B2B1B0, 0, 0x102A1000, 0x00FF6003) := by decide
/-- Why an image does not load. -/
def loadErrorOf (file : List Byte) : Option LoadError :=
  match loadImage [] file with
  | .error e => some e
  | .ok _ => none
theorem test_T146 : loadErrorOf (0x14 :: image.drop 1) = none ∧
    loadErrorOf (0x13 :: image.drop 1) = some .imageSizeBelowHeader ∧
    loadErrorOf (image.take 29) = some .imageTruncated ∧ loadErrorOf [0xFF, 0xFF, 0xFF, 0xFF] = some .imageTooLarge := by
  decide
/-- T147's first record, read at index 0 of a control store of two records. -/
theorem test_T147 : csOfRecords 2 0 [0x11, 0x02, 0x35, 0x04, 0x08, 0, 0, 0, 0, 0, 0, 0, 0, 0, 0, 0] =
    [(0, 0x804350211)] := by decide
theorem test_T148 : after (loaded 0 .reset) = some { State.reset with z := true } := by decide
theorem test_T149 : after (loaded 0 { State.reset with mpc := 0x1F0, mdr := 0x1234, h := 9 }) =
    some { State.reset with mdr := 0x1234, h := 9, z := true, b := 0x1234 } := by decide
/-- P1's cycle 9: the decrement that leaves the loop. -/
theorem test_P1_cycle9 : (after (loaded 0x002362007 { State.reset with mpc := 2, tos := 1 })).map
    (fun t => (t.tos, t.z, t.mpc, t.mir)) = some (0, true, 0x100, 0x002362007) := by decide
theorem test_withFetchWord : (after (State.reset.withFetchWord 40 0x804350211)).map (fun t => (t.pc, t.mir)) =
    some (1, 0x804350211) := by decide

/-! Witnesses: for each obligation with hypotheses, states and operands that meet all of them. -/

/-- DecodeAndEncodeAgree. -/
theorem witness_wellFormed : wellFormed [.nextMpc 0x1FF, .bOnes15, .aluBMinusH, .shRsvd3, .cMar, .cH, .memFetch, .memWrite,
    .jamN, .jmpC] = true := by decide

/-- RowAppliesExactlyByMaskAndMatch: both directions are met, by a selector value and by a bit. -/
theorem witness_row_applies : (∀ next, Instr.bOnes15 ≠ .nextMpc next) ∧ .bOnes15 ∈ decode 0xF#36 ∧
    .bOnes15 ∉ decode 0xE#36 ∧ .jmpC ∈ decode 0x004000000#36 ∧ .jmpC ∉ decode 0x003000000#36 ∧
    .nextMpc 0x1FF ∈ decode 0xFF8000000#36 := by
  refine ⟨fun _ h => ?_, by decide, by decide, by decide, by decide, by decide⟩
  cases h

/-- RecordsDecodeByTheirLowBits. -/
theorem witness_record_lengths : (List.replicate 8 (0xFF#8)).length = 8 ∧ (List.replicate 9 (0xFF#8)).length ≠ 8 := by
  decide

/-- BusSelectorsDriveTheirRegister, UndefinedBusSelectorsDriveAllOnes: a completed step with each selector value. -/
theorem witness_every_selector (b : BitVec 4) : (∃ t, step (loaded (b.setWidth 36) regs) = .next t) ∧
    (nextMicro (loaded (b.setWidth 36) regs)).b = b :=
  have h : ∀ b : BitVec 4, (after (loaded (b.setWidth 36) regs)).isSome = true ∧
    (nextMicro (loaded (b.setWidth 36) regs)).b = b := by decide
  ⟨ran (h b).1, (h b).2⟩

/-- BusSelectorsWidenMbr: selectors 2 and 3 with MBR on both sides of 0x80. -/
theorem witness_widen_mbr :
    ((∃ t, step (loaded 2 { regs with mbr := 0x80 }) = .next t) ∧ (nextMicro (loaded 2 { regs with mbr := 0x80 })).b = 2 ∧
      0x80 ≤ (loaded 2 { regs with mbr := 0x80 }).mbr.toNat) ∧
    ((∃ t, step (loaded 2 { regs with mbr := 0x7F }) = .next t) ∧ (nextMicro (loaded 2 { regs with mbr := 0x7F })).b = 2 ∧
      (loaded 2 { regs with mbr := 0x7F }).mbr.toNat < 0x80) ∧
    (∃ t, step (loaded 3 { regs with mbr := 0xFF }) = .next t) ∧ (nextMicro (loaded 3 { regs with mbr := 0xFF })).b = 3 :=
  ⟨⟨ran (by decide), by decide, by decide⟩, ⟨ran (by decide), by decide, by decide⟩, ran (by decide), by decide⟩

/-- The word of an operation code, a shifter code, all nine destinations and no memory operation. -/
def operate (op : BitVec 6) (sh : BitVec 2) : MicroWord :=
  op.setWidth 36 <<< 16 ||| sh.setWidth 36 <<< 22 ||| 0x00000FF80#36

/-- LogicalOperationsYieldTheirValue, ArithmeticIsModulo2Pow32, ConstantOperationsIgnoreTheirOperands,
MoveCopiesTheBusToEveryEnabledRegister, UndefinedOperationsYieldZero: a completed step with each operation code, each
destination bit 1 and Shift 0. -/
theorem witness_every_op (op : BitVec 6) : (∃ t, step (loaded (operate op 0) regs) = .next t) ∧
    (nextMicro (loaded (operate op 0) regs)).op = op ∧ (nextMicro (loaded (operate op 0) regs)).sh = 0 ∧
    (nextMicro (loaded (operate op 0) regs)).c = 0x1FF ∧ (nextMicro (loaded (operate op 0) regs)).mem = 0 :=
  have h : ∀ op : BitVec 6, (after (loaded (operate op 0) regs)).isSome = true ∧
    (nextMicro (loaded (operate op 0) regs)).op = op ∧ (nextMicro (loaded (operate op 0) regs)).sh = 0 ∧
    (nextMicro (loaded (operate op 0) regs)).c = 0x1FF ∧ (nextMicro (loaded (operate op 0) regs)).mem = 0 := by decide
  ⟨ran (h op).1, (h op).2⟩

/-- ConstantOperationsIgnoreTheirOperands, ShifterPassesShiftsLeftEightOrRightOne, ReservedShiftPassesThrough: a
completed step with each shifter code, for both constants. -/
theorem witness_every_shift (sh : BitVec 2) :
    ((∃ t, step (loaded (operate 17 sh) regs) = .next t) ∧ (nextMicro (loaded (operate 17 sh) regs)).sh = sh) ∧
    (∃ t, step (loaded (operate 18 sh) regs) = .next t) ∧ (nextMicro (loaded (operate 18 sh) regs)).sh = sh :=
  have h : ∀ sh : BitVec 2, ((after (loaded (operate 17 sh) regs)).isSome = true ∧
    (nextMicro (loaded (operate 17 sh) regs)).sh = sh) ∧ (after (loaded (operate 18 sh) regs)).isSome = true ∧
    (nextMicro (loaded (operate 18 sh) regs)).sh = sh := by decide
  ⟨⟨ran (h sh).1.1, (h sh).1.2⟩, ran (h sh).2.1, (h sh).2.2⟩

/-- UndefinedOperationsYieldZero: the codes 0 and 62 are not among the defined ones. -/
theorem witness_undefined_codes :
    0 ∉ ([12, 17, 18, 20, 24, 26, 28, 44, 53, 54, 57, 59, 60, 61, 63] : List (BitVec 6)) ∧
    62 ∉ ([12, 17, 18, 20, 24, 26, 28, 44, 53, 54, 57, 59, 60, 61, 63] : List (BitVec 6)) := by decide

/-- FlagsComeFromTheUnshiftedAluOutput: a completed step with an ALU output 0 and one with an output other than 0. -/
theorem witness_flags :
    ((∃ t, step (loaded (operate 0 0) regs) = .next t) ∧ aluOf (nextMicro (loaded (operate 0 0) regs)).op
      (loaded (operate 0 0) regs).h (bSelect (nextMicro (loaded (operate 0 0) regs)).b (loaded (operate 0 0) regs)) = 0) ∧
    (∃ t, step (loaded (operate 17 2) regs) = .next t) ∧ aluOf (nextMicro (loaded (operate 17 2) regs)).op
      (loaded (operate 17 2) regs).h (bSelect (nextMicro (loaded (operate 17 2) regs)).b (loaded (operate 17 2) regs)) ≠ 0 :=
  ⟨⟨ran (by decide), by decide⟩, ran (by decide), by decide⟩

/-- EnabledRegistersReceiveTheResult, NoMemoryBitTouchesNothing, StepIsTheSpecsPseudocode: a running machine whose step
with Mem = 0 completes. -/
theorem witness_no_memory : (loaded (operate 60 1) regs).status = .running ∧
    (∃ t, step (loaded (operate 60 1) regs) = .next t) ∧ (nextMicro (loaded (operate 60 1) regs)).mem = 0 ∧
    (nextMicro (loaded (operate 60 1) regs)).mem.getLsbD 1 = false := ⟨by decide, ran (by decide), by decide, by decide⟩

/-- FetchReadsTheByteAtPcOrFaults: PC at the last byte of main memory, and one above. -/
theorem witness_fetch_bounds : (99999999#32).toNat < 100000000 ∧ 100000000 ≤ (100000000#32).toNat ∧
    exec .memFetch { regs with pc := 100000000 } = .fault (.memoryBounds .fetch 100000000) :=
  ⟨by decide, by decide, by rfl⟩

/-- ReadAssemblesTheWordAtMarOrFaults, WriteStoresMdrAtMarOrFaults, WrittenWordReadsBack: MAR at the last word of main
memory, and one above. -/
theorem witness_word_bounds : 4 * (24999999#32).toNat + 3 < 100000000 ∧ 100000000 ≤ 4 * (25000000#32).toNat + 3 ∧
    (∃ t, exec .memRead { regs with mar := 24999999 } = .next t) ∧
    (∃ t, exec .memWrite { regs with mar := 24999999 } = .next t) :=
  ⟨by decide, by decide, ranRow (by decide), ranRow (by decide)⟩

/-- ReadAndWriteInOneCycleReload. -/
theorem witness_read_write : (∃ t, step (loaded 0x000000060 memStart) = .next t) ∧
    (nextMicro (loaded 0x000000060 memStart)).mem.getLsbD 1 = true ∧
    (nextMicro (loaded 0x000000060 memStart)).mem.getLsbD 2 = true := ⟨ran (by decide), by decide, by decide⟩

/-- ReadOverridesFanOutAndWriteStoresIt: both clauses (T109, T108). -/
theorem witness_fan_out_and_memory :
    ((∃ t, step (loaded 0x000120120 memStart) = .next t) ∧ (nextMicro (loaded 0x000120120 memStart)).c.getLsbD 1 = true ∧
      (nextMicro (loaded 0x000120120 memStart)).mem.getLsbD 1 = true) ∧
    (∃ t, step (loaded 0x000120140 memStart) = .next t) ∧ (nextMicro (loaded 0x000120140 memStart)).c.getLsbD 1 = true ∧
    (nextMicro (loaded 0x000120140 memStart)).mem.getLsbD 2 = true ∧
    (nextMicro (loaded 0x000120140 memStart)).mem.getLsbD 1 = false :=
  ⟨⟨ran (by decide), by decide, by decide⟩, ran (by decide), by decide, by decide, by decide⟩

/-- From a step's answer, whatever a decidable property of it says. -/
theorem ranWith {s : State} (p : State → Bool) (h : (after s).any p = true) : ∃ t, step s = .next t ∧ p t = true := by
  unfold after at h
  split at h
  · exact ⟨_, ‹_›, h⟩
  · cases h

/-- FetchSeesTheByteBeforeTheWrite: T110, the fetched byte is byte 1 of the word stored. -/
theorem witness_fetch_and_write : (nextMicro t110).mem.getLsbD 0 = true ∧ (nextMicro t110).mem.getLsbD 2 = true ∧
    (nextMicro t110).mem.getLsbD 1 = false ∧
    ∃ t, step t110 = .next t ∧ decide (t.pc.toNat = wordOffset t.mar + 1) = true :=
  ⟨by decide, by decide, by decide, ranWith (fun t => decide (t.pc.toNat = wordOffset t.mar + 1)) (by decide)⟩

/-- A machine that stores a word in its first cycle and fetches its last byte in the second. -/
def storeThenFetch : State := { State.reset with
  mar := 0x10, mdr := 0xDEADBEEF, pc := 0x43, cs := [(0, 0x008000040), (1, 0x000000010)] }

/-- StoreIsVisibleToTheNextFetch. -/
theorem witness_store_then_fetch : (nextMicro storeThenFetch).mem.getLsbD 2 = true ∧
    ∃ t, step storeThenFetch = .next t ∧ ((nextMicro t).mem.getLsbD 0 &&
      (after t).any fun u => decide (u.pc.toNat = wordOffset t.mar + 3) && decide (u.mbr = 0xDE)) = true :=
  ⟨by decide, ranWith (fun t => (nextMicro t).mem.getLsbD 0 &&
    (after t).any fun u => decide (u.pc.toNat = wordOffset t.mar + 3) && decide (u.mbr = 0xDE)) (by decide)⟩

/-- BytesPersistUntilTheirWordIsWritten: a run of one cycle that writes the word just below the byte. -/
theorem witness_bytes_persist : (∃ t, Host.Core.run Sys2Proof.core 1 storeThenFetch = .next t) ∧
    ∀ (j : Nat) (u : State), j < 1 → Host.Core.run Sys2Proof.core j storeThenFetch = .next u →
      (nextMicro u).mem.getLsbD 2 = true →
      0x44 < wordOffset (beforeMemory u).mar ∨ wordOffset (beforeMemory u).mar + 4 ≤ 0x44 := by
  constructor
  · obtain ⟨t, ht⟩ := ran (s := storeThenFetch) (by decide)
    exact ⟨t, by show (match step storeThenFetch with
      | .next s' => Host.Core.run Sys2Proof.core 0 s'
      | .fault r => .fault r
      | .refused r => .refused r) = _
                 rw [ht]; rfl⟩
  · intro j u hj hu _
    have : j = 0 := by omega
    subst this
    cases hu
    right
    decide

/-- JumpStageOrsFlagsAndMbrIntoNext, BothFlagBitsAlwaysSetBitEight: a completed step with each Jump field. -/
theorem witness_every_jump (j : BitVec 3) : (∃ t, step (loaded (j.setWidth 36 <<< 24) regs) = .next t) ∧
    (nextMicro (loaded (j.setWidth 36 <<< 24) regs)).j = j :=
  have h : ∀ j : BitVec 3, (after (loaded (j.setWidth 36 <<< 24) regs)).isSome = true ∧
    (nextMicro (loaded (j.setWidth 36 <<< 24) regs)).j = j := by decide
  ⟨ran (h j).1, (h j).2⟩

/-- BusAluAndShifterRowsFrame, FanOutRowsFrame, MemoryRowsFrame, SequencingRowsFrame: rows at both ends of each range of
places, which complete. -/
theorem witness_frames : (∀ i ∈ ([.bMdr, .aluUndef62, .shRsvd3] : List Instr), (1 ≤ i.place ∧ i.place ≤ 3) ∧
      ∃ t, exec i memStart = .next t) ∧
    (∀ i ∈ ([.cMar, .cH] : List Instr), (4 ≤ i.place ∧ i.place ≤ 12) ∧ ∃ t, exec i memStart = .next t) ∧
    (∀ i ∈ ([.memFetch, .memRead, .memWrite] : List Instr), (13 ≤ i.place ∧ i.place ≤ 15) ∧
      ∃ t, exec i memStart = .next t) ∧
    ((Instr.nextMpc 0).place = 0 ∧ 16 ≤ Instr.jamN.place ∧ 16 ≤ Instr.jmpC.place) := by
  refine ⟨fun i hi => ?_, fun i hi => ?_, fun i hi => ?_, by decide⟩
  · have h : ∀ i ∈ ([.bMdr, .aluUndef62, .shRsvd3] : List Instr), (1 ≤ i.place ∧ i.place ≤ 3) ∧
      (rowAfter i memStart).isSome = true := by decide
    exact ⟨(h i hi).1, ranRow (h i hi).2⟩
  · have h : ∀ i ∈ ([.cMar, .cH] : List Instr), (4 ≤ i.place ∧ i.place ≤ 12) ∧ (rowAfter i memStart).isSome = true := by
      decide
    exact ⟨(h i hi).1, ranRow (h i hi).2⟩
  · have h : ∀ i ∈ ([.memFetch, .memRead, .memWrite] : List Instr), (13 ≤ i.place ∧ i.place ≤ 15) ∧
      (rowAfter i memStart).isSome = true := by decide
    exact ⟨(h i hi).1, ranRow (h i hi).2⟩

/-- CycleFrame: a completed step with each Mem field. -/
theorem witness_every_mem (m : BitVec 3) : (∃ t, step (loaded (m.setWidth 36 <<< 4) memStart) = .next t) ∧
    (nextMicro (loaded (m.setWidth 36 <<< 4) memStart)).mem = m :=
  have h : ∀ m : BitVec 3, (after (loaded (m.setWidth 36 <<< 4) memStart)).isSome = true ∧
    (nextMicro (loaded (m.setWidth 36 <<< 4) memStart)).mem = m := by decide
  ⟨ran (h m).1, (h m).2⟩

/-- StepRunsTheDecodedRows: a running machine, a row that completes and one that faults. -/
theorem witness_step_runs_rows : State.reset.status = .running ∧
    exec .bOnes9 State.reset = .next { State.reset with b := 0xFFFFFFFF } ∧
    exec .memRead { State.reset with mar := 25000000 } = .fault (.memoryBounds .read 100000000) :=
  ⟨by decide, by rfl, by rfl⟩

/-- StepKeepsTheStateCanonical: a canonical state with something listed in both memories, whose step completes. -/
theorem witness_canonical : (loaded 0x000000050 memStart).Canonical ∧ ∃ t, step (loaded 0x000000050 memStart) = .next t :=
  ⟨⟨by decide, by decide, by decide, by decide⟩, ran (by decide)⟩

/-- BoundaryInvariantsHold: a completed step with a write, no read and C bit 1 = 0. -/
theorem witness_plain_write : (∃ t, step (loaded 0x000000040 memStart) = .next t) ∧
    (nextMicro (loaded 0x000000040 memStart)).mem.getLsbD 2 = true ∧
    (nextMicro (loaded 0x000000040 memStart)).mem.getLsbD 1 = false ∧
    (nextMicro (loaded 0x000000040 memStart)).c.getLsbD 1 = false := ⟨ran (by decide), by decide, by decide, by decide⟩

/-- StepCompletesExactlyInBounds: both sides are met and both can fail. -/
theorem witness_safe_and_unsafe : SafeState (loaded 0x000000050 memStart) ∧ ¬ SafeState t128 := by
  unfold SafeState CycleInBounds
  decide

/-- StepFaultsExactlyAtTheFirstAccessOutOfBounds: a running machine for each of the three faults. -/
theorem witness_each_fault :
    ((loaded 0x000000070 { State.reset with pc := 100000000 }).status = .running ∧
      step (loaded 0x000000070 { State.reset with pc := 100000000 }) = .fault (.memoryBounds .fetch 100000000)) ∧
    (t128.status = .running ∧ step t128 = .fault (.memoryBounds .read 100000000)) ∧
    (loaded 0x000000050 { State.reset with mar := 25000000 }).status = .running ∧
    step (loaded 0x000000050 { State.reset with mar := 25000000 }) = .fault (.memoryBounds .write 100000000) :=
  ⟨⟨by decide, faulted (by decide)⟩, ⟨by decide, faulted (by decide)⟩, by decide, faulted (by decide)⟩

/-- NoWordIsRefusedAndOnlyMemoryFaults: a row that is no memory row, and a running machine. -/
theorem witness_no_memory_row : Instr.aluUndef0 ≠ .memFetch ∧ Instr.aluUndef0 ≠ .memRead ∧ Instr.aluUndef0 ≠ .memWrite ∧
    t128.status = .running := by decide

/-- FaultedMachinePerformsNoCycle: a FAULTED machine, a running one that stops, and one whose step completes. -/
theorem witness_faulted_machine : t128.takeFault.status = .faulted ∧ t128.status = .running ∧
    t128.stopped.isSome = true ∧ ∃ t, step State.reset = .next t := ⟨by decide, by decide, by decide, ran (by decide)⟩

/-- ZeroWordReturnsToIndexZero: T149. -/
theorem witness_zero_word : ({ State.reset with mpc := 0x1F0 } : State).status = .running ∧
    ControlStore.fetch { State.reset with mpc := 0x1F0 }.cs (0x1F0#9).toNat = 0 := by decide

/-- PlacedWordIsTheNextLatched: another index, and a canonical control store. -/
theorem witness_placed_word : 511 ≠ State.reset.mpc.toNat ∧ ControlStore.wf storeThenFetch.cs = true := by decide

/-- RomFileFillsTheControlStore: one byte short, and exactly long enough; the last index. -/
theorem witness_rom_lengths : (List.replicate 4095 (0#8)).length < 4096 ∧ 4096 ≤ (List.replicate 4096 (0#8)).length ∧
    511 < 512 := by
  rw [List.length_replicate, List.length_replicate]
  decide

/-- ProgramImageFillsMainMemory: T145's image meets every bound; so does the smallest, T146's. -/
theorem witness_image : 26 = littleEndian (image.take 4) ∧ 20 ≤ 26 ∧ 0x0401 + (26 - 20) ≤ 100000000 ∧
    4 + 26 ≤ image.length ∧ 20 = littleEndian ((0x14 :: image.drop 1).take 4) := by decide

/-- ImageCornerCasesAreLoadErrors: an image that loads, and one that meets each condition. -/
theorem witness_image_errors : (∃ m, loadImage [] image = .ok m) ∧ ([] : List Byte).length < 4 ∧
    littleEndian ((0x13 :: image.drop 1).take 4) < 20 ∧
    100000000 < 0x0401 + (littleEndian ([0xFF, 0xFF, 0xFF, 0xFF].take 4) - 20) ∧
    (image.take 29).length < 4 + littleEndian ((image.take 29).take 4) := ⟨⟨_, rfl⟩, by decide⟩

/-- BootedMachineIsResetPlusMemories: a boot that succeeds, from the default initial memory. -/
theorem witness_boot : Memory.wf [] = true ∧
    ∃ s, State.boot [] (some (List.replicate 4096 0)) (some image) = .ok s := by
  have hrom : loadRom (List.replicate 4096 0) = .ok (csOfRecords Config.csEntries 0 (List.replicate 4096 0)) := by
    unfold loadRom
    rw [List.length_replicate, if_neg (by decide)]
  obtain ⟨m, hm⟩ := witness_image_errors.1
  refine ⟨by decide, (State.reset.setCs (csOfRecords Config.csEntries 0 (List.replicate 4096 0))).setMem m, ?_⟩
  simp only [State.boot, hrom, hm]

end Sys2Proof.Tests
end

section
/-! SUPPORT. The whole cycle: what a completed cycle leaves, said once (46_cycle.md R250), and when it faults. The
invariants of the state are derived from these and do not unfold a step. -/

namespace Sys2Proof.Machine

/-! The memory operations, where none of them faults (R210 to R215). -/

/-- What the enabled memory operations leave where all are in bounds: fetch and read see the memory of before, write
stores MDR as the read left it (R214, R215). -/
def afterMemory (mem : BitVec 3) (s : State) : State :=
  { s with
    mbr := if mem.getLsbD 0 then s.mem.byteAt s.pc.toNat else s.mbr
    mdr := if mem.getLsbD 1 then s.mem.wordAt (wordOffset s.mar) else s.mdr
    mem := if mem.getLsbD 2 then
        s.mem.setWord (wordOffset s.mar) (if mem.getLsbD 1 then s.mem.wordAt (wordOffset s.mar) else s.mdr)
      else s.mem }

section
variable (mem : BitVec 3) (s : State)
@[simp] theorem afterMemory_mar : (afterMemory mem s).mar = s.mar := rfl
@[simp] theorem afterMemory_mdr : (afterMemory mem s).mdr =
    if mem.getLsbD 1 then s.mem.wordAt (wordOffset s.mar) else s.mdr := rfl
@[simp] theorem afterMemory_pc : (afterMemory mem s).pc = s.pc := rfl
@[simp] theorem afterMemory_mbr : (afterMemory mem s).mbr =
    if mem.getLsbD 0 then s.mem.byteAt s.pc.toNat else s.mbr := rfl
@[simp] theorem afterMemory_sp : (afterMemory mem s).sp = s.sp := rfl
@[simp] theorem afterMemory_lv : (afterMemory mem s).lv = s.lv := rfl
@[simp] theorem afterMemory_cpp : (afterMemory mem s).cpp = s.cpp := rfl
@[simp] theorem afterMemory_tos : (afterMemory mem s).tos = s.tos := rfl
@[simp] theorem afterMemory_opc : (afterMemory mem s).opc = s.opc := rfl
@[simp] theorem afterMemory_h : (afterMemory mem s).h = s.h := rfl
@[simp] theorem afterMemory_mpc : (afterMemory mem s).mpc = s.mpc := rfl
@[simp] theorem afterMemory_n : (afterMemory mem s).n = s.n := rfl
@[simp] theorem afterMemory_z : (afterMemory mem s).z = s.z := rfl
@[simp] theorem afterMemory_b : (afterMemory mem s).b = s.b := rfl
@[simp] theorem afterMemory_c : (afterMemory mem s).c = s.c := rfl
@[simp] theorem afterMemory_mir : (afterMemory mem s).mir = s.mir := rfl
@[simp] theorem afterMemory_status : (afterMemory mem s).status = s.status := rfl
@[simp] theorem afterMemory_mem : (afterMemory mem s).mem =
    if mem.getLsbD 2 then s.mem.setWord (wordOffset s.mar) (afterMemory mem s).mdr else s.mem := rfl
@[simp] theorem afterMemory_cs : (afterMemory mem s).cs = s.cs := rfl
@[simp] theorem afterMemory_aluOut : (afterMemory mem s).aluOut = s.aluOut := rfl
end

@[simp] theorem State.setMbr_self (s : State) : s.setMbr s.mbr = s := rfl
@[simp] theorem State.setMdr_self (s : State) : s.setMdr s.mdr = s := rfl
@[simp] theorem State.setMem_self (s : State) : s.setMem s.mem = s := rfl

theorem fetchIf_eq_next {e : Bool} {s t : State} : fetchIf e s = .next t ↔
    (e = true → s.pc.toNat < Config.memBytes) ∧ t = s.setMbr (if e then s.mem.byteAt s.pc.toNat else s.mbr) := by
  cases e
  · simp [fetchIf, eq_comm]
  · by_cases h : s.pc.toNat < Config.memBytes <;> simp [fetchIf, h, eq_comm]

theorem readIf_eq_next {e : Bool} {s t : State} : readIf e s = .next t ↔
    (e = true → wordOffset s.mar + 3 < Config.memBytes) ∧
      t = s.setMdr (if e then s.mem.wordAt (wordOffset s.mar) else s.mdr) := by
  cases e
  · simp [readIf, eq_comm]
  · by_cases h : 4 * s.mar.toNat + 3 < Config.memBytes <;> simp [readIf, wordOffset, h, eq_comm]

theorem writeIf_eq_next {e : Bool} {s t : State} : writeIf e s = .next t ↔
    (e = true → wordOffset s.mar + 3 < Config.memBytes) ∧
      t = s.setMem (if e then s.mem.setWord (wordOffset s.mar) s.mdr else s.mem) := by
  cases e
  · simp [writeIf, eq_comm]
  · by_cases h : 4 * s.mar.toNat + 3 < Config.memBytes <;> simp [writeIf, wordOffset, h, eq_comm]

/-- The memory operations complete exactly where the enabled ones are in bounds: none of them moves PC or MAR, so
every bound is one on the state they begin in. -/
theorem runRows_rowsOfMem_eq_next {mem : BitVec 3} {s t : State} : runRows (rowsOfMem mem) s = .next t ↔
    (mem.getLsbD 0 = true → s.pc.toNat < Config.memBytes) ∧
    (mem.getLsbD 1 = true ∨ mem.getLsbD 2 = true → wordOffset s.mar + 3 < Config.memBytes) ∧
    t = afterMemory mem s := by
  rw [runRows_rowsOfMem]
  simp only [andThen_eq_next, fetchIf_eq_next, readIf_eq_next, writeIf_eq_next]
  constructor
  · rintro ⟨_, ⟨hfetch, rfl⟩, _, ⟨hread, rfl⟩, hwrite, rfl⟩
    exact ⟨hfetch, fun h => h.elim hread hwrite, rfl⟩
  · rintro ⟨hfetch, hword, rfl⟩
    exact ⟨_, ⟨hfetch, rfl⟩, _, ⟨fun h => hword (.inl h), rfl⟩, fun h => hword (.inr h), rfl⟩

/-! The step. -/

/-- The rows before the memory operations complete, and leave the wire at the ALU output (R250, sub-steps 1 to 5). -/
theorem runRows_decode_latch (s : State) : runRows (decode (latch s).mir) (latch s) =
    andThen (runRows (rowsOfMem (nextMicro s).mem) ((beforeMemory s).setAluOut (nextAlu s))) fun t =>
      .next (jumpStage (nextMicro s).j t) := by
  have hrows : decode (latch s).mir = (nextMicro s).rows := rfl
  have hjump : runRows (rowsOfJump (nextMicro s).j) = fun t => .next (jumpStage (nextMicro s).j t) :=
    funext fun t => runRows_rowsOfJump _ t
  have hnext (u : State) : exec (.nextMpc (nextMicro s).next) u = .next (u.setMpc (nextMicro s).next) := rfl
  rw [hrows, Micro.rows]
  simp only [List.cons_append, List.nil_append, runRows_cons, hnext, exec_rowOfB, exec_rowOfOp, exec_rowOfShift,
    runRows_append, runRows_rowsOfC, hjump, andThen_next]
  rw [beforeMemory_eq, nextAlu]
  simp only [State.flagsOf, zeroFlag_eq, nonzeroFlag_eq]
  rfl

theorem step_eq_cycle {s : State} (hs : s.status = .running) : step s = cycle s := by
  simp [step, hs]

theorem step_of_faulted {s : State} (hs : s.status = .faulted) : step s = .fault .machineFaulted := by
  simp [step, hs]

/-- A running machine's step: everything but the memory operations completes (R250). -/
theorem step_of_running {s : State} (hs : s.status = .running) : step s =
    andThen (runRows (rowsOfMem (nextMicro s).mem) ((beforeMemory s).setAluOut (nextAlu s))) fun t =>
      .next ((jumpStage (nextMicro s).j t).setAluOut 0) := by
  rw [step_eq_cycle hs, cycle, runRows_decode_latch, andThen_assoc]
  rfl

/-- A step depends on the status, the fields of the latched word and what sub-steps 1 to 5 leave, and on nothing else. -/
theorem step_congr {s s' : State} (hstatus : s'.status = s.status) (hfields : nextMicro s' = nextMicro s)
    (hbefore : (beforeMemory s').setAluOut (nextAlu s') = (beforeMemory s).setAluOut (nextAlu s)) :
    step s' = step s := by
  cases hs : s.status with
  | faulted => rw [step_of_faulted hs, step_of_faulted (hstatus.trans hs)]
  | running => rw [step_of_running hs, step_of_running (hstatus.trans hs), hfields, hbefore]

/-- The state after a cycle in which nothing faults. -/
def afterCycle (s : State) : State :=
  (jumpStage (nextMicro s).j (afterMemory (nextMicro s).mem (beforeMemory s))).setAluOut 0

/-- Everything a completed step can be: its machine was RUNNING, its accesses in bounds, and there is one next state. -/
theorem step_eq_next {s t : State} : step s = .next t ↔ SafeState s ∧ t = afterCycle s := by
  rw [SafeState]
  cases hs : s.status with
  | faulted => simp [step_of_faulted hs]
  | running =>
    rw [step_of_running hs]
    simp only [andThen_eq_next, runRows_rowsOfMem_eq_next]
    constructor
    · rintro ⟨_, ⟨hfetch, hword, rfl⟩, ht⟩
      exact ⟨⟨trivial, hfetch, hword⟩, by cases ht; rfl⟩
    · rintro ⟨⟨-, hfetch, hword⟩, rfl⟩
      exact ⟨_, ⟨hfetch, hword, rfl⟩, rfl⟩

theorem afterCycle_status (s : State) : (afterCycle s).status = s.status := by simp [afterCycle]

theorem afterCycle_cs (s : State) : (afterCycle s).cs = s.cs := by simp [afterCycle]

theorem afterCycle_mar (s : State) : (afterCycle s).mar = (beforeMemory s).mar := rfl

theorem afterCycle_mdr (s : State) : (afterCycle s).mdr =
    (afterMemory (nextMicro s).mem (beforeMemory s)).mdr := rfl

/-- Memory after a cycle: as before it, or with MDR stored at `4*MAR`, both as the cycle leaves them (R213). -/
theorem afterCycle_mem (s : State) : (afterCycle s).mem =
    if (nextMicro s).mem.getLsbD 2 then s.mem.setWord (wordOffset (afterCycle s).mar) (afterCycle s).mdr
    else s.mem := by
  rw [afterCycle_mar, afterCycle_mdr, ← beforeMemory_mem s]
  rfl

/-- Both flags are of one ALU output, and opposite (R170). -/
theorem afterCycle_n (s : State) : (afterCycle s).n = !(afterCycle s).z := by simp [afterCycle]

/-! The stopped machine (R272). -/

/-- A list of rows stops somewhere exactly where running it faults. -/
theorem stoppedBy_isSome_iff (rows : List Instr) (s : State) :
    (∃ u, stoppedBy rows s = some u) ↔ ∃ f, runRows rows s = .fault f := by
  induction rows generalizing s with
  | nil => simp [stoppedBy, runRows]
  | cons i rows ih =>
    rw [stoppedBy, runRows_cons]
    cases exec i s with
    | next t => exact ih t
    | fault f => simp [andThen]
    | refused r => simp [andThen]

theorem stoppedBy_status {rows : List Instr} {s u : State} (h : stoppedBy rows s = some u) : u.status = .faulted := by
  induction rows generalizing s with
  | nil => simp [stoppedBy] at h
  | cons i rows ih =>
    rw [stoppedBy] at h
    cases hi : exec i s with
    | next t => rw [hi] at h; exact ih h
    | fault f => rw [hi] at h; cases h; rfl
    | refused r => rw [hi] at h; cases h

theorem stopped_of_running {s : State} (hs : s.status = .running) :
    s.stopped = stoppedBy (decode (latch s).mir) (latch s) := by
  simp [State.stopped, hs]

theorem stopped_status {s u : State} (h : s.stopped = some u) : u.status = .faulted := by
  cases hs : s.status with
  | running => exact stoppedBy_status (stopped_of_running hs ▸ h)
  | faulted => simp [State.stopped, hs] at h

/-- The end of a cycle cannot fault, so a running machine's step faults exactly where its rows do. -/
theorem step_fault_iff_rows {s : State} (hs : s.status = .running) {f : Fault} :
    step s = .fault f ↔ runRows (decode (latch s).mir) (latch s) = .fault f := by
  rw [step_eq_cycle hs, cycle, andThen_eq_fault]
  simp [endCycle]

end Sys2Proof.Machine
end

section
/-! The obligations about the state (10_state.md R20 to R44). -/

namespace Sys2Proof.Machine

/-- A write within the bounds keeps main memory canonical; without one it is not touched. -/
theorem wf_mem_afterCycle {s : State} (hmem : Memory.wf s.mem = true) (hbounds : CycleInBounds s) :
    Memory.wf (afterCycle s).mem = true := by
  obtain ⟨-, hword⟩ := hbounds
  rw [afterCycle_mem]
  cases hw : (nextMicro s).mem.getLsbD 2 with
  | false => exact hmem
  | true => exact Memory.wf_setWord _ (hword (.inr hw)) hmem

/-- Settles O40: a completed step is `afterCycle`, and its one change of memory is a word inside the bounds. -/
theorem stepKeepsTheStateCanonical : Obligations.StepKeepsTheStateCanonical := by
  intro s t ⟨hmem, hcs, hrunning, _⟩ hstep
  obtain ⟨⟨-, hbounds⟩, rfl⟩ := step_eq_next.mp hstep
  exact ⟨wf_mem_afterCycle hmem hbounds, (afterCycle_cs s).symm ▸ hcs, (afterCycle_status s).trans hrunning, rfl⟩

/-- A plain write: MDR is neither loaded nor a destination, so it is the word stored, and it reads back (R43 (d)). -/
theorem afterCycle_of_plain_write {s : State} (hwrite : (nextMicro s).mem.getLsbD 2 = true)
    (hread : (nextMicro s).mem.getLsbD 1 = false) (hdest : (nextMicro s).c.getLsbD 1 = false) :
    (afterCycle s).mem.wordAt (wordOffset (afterCycle s).mar) = s.mdr ∧ (afterCycle s).mdr = s.mdr := by
  have hmdr : (afterCycle s).mdr = s.mdr := by
    rw [afterCycle_mdr, afterMemory_mdr, hread, beforeMemory_mdr, hdest]
    rfl
  refine ⟨?_, hmdr⟩
  rw [afterCycle_mem, if_pos hwrite, Memory.wordAt_setWord, hmdr]

/-- Settles O42: (a) and (b) by the width of the cells, the flags by the one ALU output both come from, the plain write
by reading the stored word back. -/
theorem boundaryInvariantsHold : Obligations.BoundaryInvariantsHold := by
  refine ⟨fun s => ⟨Nat.le_of_lt_succ s.mpc.isLt, Nat.le_of_lt_succ s.mbr.isLt⟩, fun s t hstep => ?_,
    fun s t hstep hwrite hread hdest => ?_⟩
  · obtain ⟨-, rfl⟩ := step_eq_next.mp hstep
    rw [afterCycle_n]
    cases (afterCycle s).z <;> rfl
  · obtain ⟨-, rfl⟩ := step_eq_next.mp hstep
    exact afterCycle_of_plain_write hwrite hread hdest

/-- Settles O43: sub-steps 1 to 5 write N, Z, B, C, MIR and the wire from the other cells alone, and only what they leave
goes on to the memory operations. -/
theorem cycleIgnoresFlagsLatchesAndMir : Obligations.CycleIgnoresFlagsLatchesAndMir := by
  intro s n z b c a mir
  refine step_congr rfl rfl ?_
  rw [beforeMemory_eq, beforeMemory_eq]
  rfl

/-- Settles O47: `stoppedBy` and `runRows` go through the same rows, and a completed step begins RUNNING and keeps the
status. -/
theorem faultedMachinePerformsNoCycle : Obligations.FaultedMachinePerformsNoCycle := by
  refine ⟨fun s hs => step_of_faulted hs, fun s hs => ?_, fun s u hu => ?_, fun s t hstep => ?_⟩
  · rw [stopped_of_running hs, stoppedBy_isSome_iff]
    simp only [step_fault_iff_rows hs]
  · exact ⟨stopped_status hu, step_of_faulted (stopped_status hu)⟩
  · obtain ⟨⟨hrunning, -⟩, rfl⟩ := step_eq_next.mp hstep
    exact ⟨hrunning, (afterCycle_status s).trans hrunning⟩

/-- Settles O41: after reset both memories list nothing. -/
theorem resetIsCanonical : Obligations.ResetIsCanonical :=
  ⟨rfl, rfl, rfl, rfl⟩

/-- MPC is 0 after reset, so the first word latched is the one at index 0, whatever the control store (R301). -/
theorem fetchWord_reset (cs : ControlStore) : fetchWord { State.reset with cs := cs } = cs.fetch 0 := rfl

/-- Settles O49: each cell by `State.reset`, the first latch by `fetchWord_reset`. -/
theorem resetValues : Obligations.ResetValues :=
  ⟨rfl, rfl, rfl, rfl, rfl, rfl, rfl, rfl, rfl, rfl, rfl, rfl, rfl, rfl, rfl, rfl, rfl, fetchWord_reset⟩

end Sys2Proof.Machine
end

section
/-! The obligations about main memory (20_memory.md R63 to R80). -/

namespace Sys2Proof.Machine

/-! Words and their bytes. -/

/-- Byte `k` of the word at `a` is the byte at `a + k` (R65): `wordByte_wordAt` for every `k`. -/
theorem wordByte_wordAt_of_lt (m : Memory) (a : Nat) {k : Nat} (hk : k < 4) :
    wordByte (m.wordAt a) k = m.byteAt (a + k) := by
  obtain ⟨h0, h1, h2, h3⟩ := wordByte_wordAt m a
  match k, hk with
  | 0, _ => exact h0
  | 1, _ => exact h1
  | 2, _ => exact h2
  | 3, _ => exact h3

/-- Byte `k` of a word just written is byte `k` of what was written: the word reads back, and its bytes with it. -/
theorem Memory.byteAt_setWord_add (m : Memory) (a : Nat) (v : Word) {k : Nat} (hk : k < 4) :
    (m.setWord a v).byteAt (a + k) = wordByte v k := by
  rw [← wordByte_wordAt_of_lt _ a hk, Memory.wordAt_setWord]

/-- Settles O22: the byte laws of `setWord` and `wordAt`; the example is bytes 0 to 3 of the word at 0x40. -/
theorem wordsAreLittleEndian : Obligations.WordsAreLittleEndian := by
  refine ⟨fun m a v k hk => m.byteAt_setWord_add a v hk, fun m a k hk => wordByte_wordAt_of_lt m a hk, fun m => ?_⟩
  calc [0x40, 0x41, 0x42, 0x43].map (fun a => (m.setWord (wordOffset 0x10) 0xDEADBEEF).byteAt a)
      = (List.range 4).map (fun k => (m.setWord (wordOffset 0x10) 0xDEADBEEF).byteAt (wordOffset 0x10 + k)) := rfl
    _ = (List.range 4).map (wordByte 0xDEADBEEF) :=
      List.map_congr_left fun _ hk => m.byteAt_setWord_add _ _ (List.mem_range.mp hk)
    _ = [0xEF, 0xBE, 0xAD, 0xDE] := by decide

/-! The three accesses, in bounds (R66 to R69). -/

theorem Memory.read1_of_lt (m : Memory) {a : Nat} (ha : a < Config.memBytes) : m.read1 a = some (m.byteAt a) := by
  simp [Memory.read1, byteInBounds, ha]

theorem Memory.read4_of_lt (m : Memory) {a : Nat} (ha : a + 3 < Config.memBytes) :
    m.read4 a = some (m.wordAt a) := by
  simp [Memory.read4, wordInBounds, ha]

theorem Memory.write4_of_lt (m : Memory) {a : Nat} (v : Word) (ha : a + 3 < Config.memBytes) :
    m.write4 a v = some (m.setWord a v) := by
  simp [Memory.write4, wordInBounds, ha]

/-- Settles O23: a bound on the last byte of the word bounds every byte of it, so no access faults, and what each
reads is by the laws of `setWord`. -/
theorem writtenWordReadsBack : Obligations.WrittenWordReadsBack := by
  intro m w v hw
  have hbounds : wordOffset w + 3 < Config.memBytes := hw
  refine ⟨m.setWord (wordOffset w) v, m.write4_of_lt v hbounds, ?_, fun k hk => ?_⟩
  · rw [Memory.read4_of_lt _ hbounds, Memory.wordAt_setWord]
  · rw [Memory.read1_of_lt _ (by omega), Memory.byteAt_setWord_add _ _ _ hk, wordByte]

/-! Memory over cycles. -/

theorem afterCycle_pc (s : State) : (afterCycle s).pc = (beforeMemory s).pc := rfl

/-- MBR after a cycle: the byte at PC, as the fan-out left it, of the memory the cycle began with (R211, R214). -/
theorem afterCycle_mbr (s : State) : (afterCycle s).mbr =
    if (nextMicro s).mem.getLsbD 0 then s.mem.byteAt (afterCycle s).pc.toNat else s.mbr := by
  rw [afterCycle_pc, ← beforeMemory_mem s, ← beforeMemory_mbr s]
  rfl

/-- A byte outside the word a cycle writes, if it writes one, reads as before (R69). -/
theorem byteAt_afterCycle_outside {s : State} {a : Nat} (h : (nextMicro s).mem.getLsbD 2 = true →
      a < wordOffset (beforeMemory s).mar ∨ wordOffset (beforeMemory s).mar + 4 ≤ a) :
    (afterCycle s).mem.byteAt a = s.mem.byteAt a := by
  rw [afterCycle_mem, afterCycle_mar]
  split
  · exact Memory.byteAt_setWord_outside _ _ (h ‹_›)
  · rfl

/-- Settles O28: the fetch reads the memory the first cycle left, before the second's own write. -/
theorem storeIsVisibleToTheNextFetch : Obligations.StoreIsVisibleToTheNextFetch := by
  intro s t u hfirst hwrite hsecond hfetch k hk hpc
  obtain ⟨-, rfl⟩ := step_eq_next.mp hsecond
  have hmem : t.mem = s.mem.setWord (wordOffset t.mar) t.mdr := by
    obtain ⟨-, rfl⟩ := step_eq_next.mp hfirst
    rw [afterCycle_mem, if_pos hwrite]
  rw [afterCycle_mbr, if_pos hfetch, hpc, hmem, Memory.byteAt_setWord_add _ _ _ hk, wordByte]

/-- A run of `k + 1` steps that completes is a step that completes, and a run of `k` steps from where it leads. -/
theorem run_succ_eq_next {M : Host.Core} {k : Nat} {s t : M.State} : M.run (k + 1) s = .next t ↔
    ∃ u, M.step s = .next u ∧ M.run k u = .next t := by
  rw [Host.Core.run]
  cases M.step s <;> simp

/-- Settles O29: by induction on the run, one cycle at its front. -/
theorem bytesPersistUntilTheirWordIsWritten : Obligations.BytesPersistUntilTheirWordIsWritten := by
  intro k s t a hrun houtside
  induction k generalizing s with
  | zero => cases hrun; rfl
  | succ k ih =>
    obtain ⟨u, hstep, hrest⟩ := run_succ_eq_next.mp hrun
    obtain ⟨-, hu⟩ := step_eq_next.mp hstep
    calc t.mem.byteAt a = u.mem.byteAt a := ih u hrest fun j v hj hv =>
          houtside (j + 1) v (by omega) (run_succ_eq_next.mpr ⟨u, hstep, hv⟩)
      _ = s.mem.byteAt a := hu ▸ byteAt_afterCycle_outside (houtside 0 s (by omega) rfl)

end Sys2Proof.Machine
end

section
/-! The obligations about the encoding (30_encoding.md R90 to R110): the word of seven fields as an integer, the rows
by their places in the cycle, the masks of the opcode table, and the records of the ROM image. -/

namespace Sys2Proof

/-! The word of seven fields as an integer (R92). -/

/-- A field placed right above every bit of a word adds to it. -/
theorem toNat_or_field {n k : Nat} {a : MicroWord} (ha : a.toNat < 2 ^ k) (x : BitVec n) (hk : k + n ≤ 36) :
    (a ||| x.setWidth 36 <<< k).toNat = a.toNat + 2 ^ k * x.toNat ∧
      (a ||| x.setWidth 36 <<< k).toNat < 2 ^ (k + n) := by
  have hsum : a.toNat + 2 ^ k * x.toNat < 2 ^ (k + n) := calc
    a.toNat + 2 ^ k * x.toNat < 2 ^ k * (x.toNat + 1) := by rw [Nat.mul_add]; omega
    _ ≤ 2 ^ k * 2 ^ n := Nat.mul_le_mul_left _ x.isLt
    _ = 2 ^ (k + n) := (Nat.pow_add 2 k n).symm
  have hword : 2 ^ (k + n) ≤ 2 ^ 36 := Nat.pow_le_pow_right (by omega) hk
  have hx : x.toNat ≤ 2 ^ k * x.toNat := Nat.le_mul_of_pos_left _ (by positivity)
  have hfield : (x.setWidth 36 <<< k).toNat = 2 ^ k * x.toNat := by
    rw [BitVec.toNat_shiftLeft, BitVec.toNat_setWidth, Nat.mod_eq_of_lt (show x.toNat < 2 ^ 36 by omega),
      Nat.shiftLeft_eq, Nat.mul_comm, Nat.mod_eq_of_lt (by omega)]
  have hor : (a ||| x.setWidth 36 <<< k).toNat = a.toNat + 2 ^ k * x.toNat := by
    rw [BitVec.toNat_or, hfield, Nat.or_comm, ← Nat.two_pow_add_eq_or_of_lt ha, Nat.add_comm]
  exact ⟨hor, hor ▸ hsum⟩

/-- The composition of R92, from the lowest field up. -/
theorem Micro.toNat_toWord (m : Micro) : m.toWord.toNat =
    m.b.toNat + 16 * m.mem.toNat + 128 * m.c.toNat + 65536 * m.op.toNat + 4194304 * m.sh.toNat +
      16777216 * m.j.toNat + 134217728 * m.next.toNat := by
  have hb : (m.b.setWidth 36).toNat = m.b.toNat := by
    rw [BitVec.toNat_setWidth, Nat.mod_eq_of_lt (by omega)]
  obtain ⟨hmem, hlt⟩ := toNat_or_field (k := 4) (hb.trans_lt m.b.isLt) m.mem (by omega)
  obtain ⟨hc, hlt⟩ := toNat_or_field hlt m.c (by omega)
  obtain ⟨hop, hlt⟩ := toNat_or_field hlt m.op (by omega)
  obtain ⟨hsh, hlt⟩ := toNat_or_field hlt m.sh (by omega)
  obtain ⟨hj, hlt⟩ := toNat_or_field hlt m.j (by omega)
  obtain ⟨hnext, -⟩ := toNat_or_field hlt m.next (by omega)
  calc m.toWord.toNat = _ := hnext
    _ = _ := by rw [hj, hsh, hop, hc, hmem, hb]; rfl

/-- A field of a word: its binary digits at the field's place (R121). -/
theorem toNat_field (w : MicroWord) (k n : Nat) : (w.extractLsb' k n).toNat = w.toNat / 2 ^ k % 2 ^ n := by
  rw [BitVec.extractLsb'_toNat, Nat.shiftRight_eq_div_pow]

/-- A word is the sum of its fields, each the digits of the word at its place. -/
theorem toWord_ofWord (w : MicroWord) : (Micro.ofWord w).toWord = w := by
  apply BitVec.eq_of_toNat_eq
  rw [Micro.toNat_toWord]
  simp only [Micro.ofWord, toNat_field]
  omega

/-- The digits of the sum at a field's place are the field. -/
theorem ofWord_toWord (m : Micro) : Micro.ofWord m.toWord = m := by
  have hsum := m.toNat_toWord
  have hfield {n : Nat} (k : Nat) (x : BitVec n) (h : m.toWord.toNat / 2 ^ k % 2 ^ n = x.toNat) :
      m.toWord.extractLsb' k n = x := BitVec.eq_of_toNat_eq ((toNat_field _ k n).trans h)
  rw [Micro.ofWord, hfield 0 m.b (by omega), hfield 4 m.mem (by omega), hfield 7 m.c (by omega),
    hfield 16 m.op (by omega), hfield 22 m.sh (by omega), hfield 24 m.j (by omega), hfield 27 m.next (by omega)]

/-- Settles O2: both inverses and the sum, by the integer value of a word. -/
theorem fieldsAndWordsAreInBijection : Obligations.FieldsAndWordsAreInBijection :=
  ⟨toWord_ofWord, ofWord_toWord, Micro.toNat_toWord⟩

/-! The rows by their places in the cycle (R250). -/

/-- The rows one bit enables, in the order of the cycle (R95, R96, R99). -/
def bitRows : List Instr :=
  [.cMar, .cMdr, .cPc, .cSp, .cLv, .cCpp, .cTos, .cOpc, .cH, .memFetch, .memRead, .memWrite, .jamN, .jamZ, .jmpC]

/-- The bit that enables a bit row (R95, R96, R99); no other row has one. -/
def Micro.enables (m : Micro) : Instr → Bool
  | .cMar => m.c.getLsbD 0
  | .cMdr => m.c.getLsbD 1
  | .cPc => m.c.getLsbD 2
  | .cSp => m.c.getLsbD 3
  | .cLv => m.c.getLsbD 4
  | .cCpp => m.c.getLsbD 5
  | .cTos => m.c.getLsbD 6
  | .cOpc => m.c.getLsbD 7
  | .cH => m.c.getLsbD 8
  | .memFetch => m.mem.getLsbD 0
  | .memRead => m.mem.getLsbD 1
  | .memWrite => m.mem.getLsbD 2
  | .jamN => m.j.getLsbD 0
  | .jamZ => m.j.getLsbD 1
  | .jmpC => m.j.getLsbD 2
  | _ => false

theorem filter_cons_rowIf (p : Instr → Bool) (i : Instr) (l : List Instr) :
    (i :: l).filter p = rowIf (p i) i ++ l.filter p := by
  rw [List.filter_cons, rowIf]
  cases p i <;> rfl

/-- The rows of seven fields: the four every microinstruction has, and the enabled bit rows (R110). -/
theorem Micro.rows_eq (m : Micro) :
    m.rows = .nextMpc m.next :: rowOfB m.b :: rowOfOp m.op :: rowOfShift m.sh :: bitRows.filter m.enables := by
  simp only [Micro.rows, rowsOfC, rowsOfMem, rowsOfJump, bitRows, filter_cons_rowIf, List.filter_nil, Micro.enables,
    List.append_assoc, List.cons_append, List.nil_append, List.append_nil]

/-- Places 0 to 3 are those of NEXT, B, OP and Shift; every later one is a bit's. -/
theorem mem_bitRows {i : Instr} : i ∈ bitRows ↔ 4 ≤ i.place := by
  cases i <;> simp [bitRows, Instr.place]

/-- Any choice of the bit rows is the choice of some three masks. -/
theorem exists_masks (p : Instr → Bool) : ∃ (mem : BitVec 3) (c : BitVec 9) (j : BitVec 3),
    ∀ b op sh next, bitRows.filter (Micro.mk b mem c op sh j next).enables = bitRows.filter p :=
  ⟨.ofBoolListLE [p .memFetch, p .memRead, p .memWrite],
    .ofBoolListLE [p .cMar, p .cMdr, p .cPc, p .cSp, p .cLv, p .cCpp, p .cTos, p .cOpc, p .cH],
    .ofBoolListLE [p .jamN, p .jamZ, p .jmpC],
    fun _ _ _ _ => List.filter_congr fun i hi => by
      simp only [bitRows, List.mem_cons, List.not_mem_nil, or_false] at hi
      rcases hi with rfl | rfl | rfl | rfl | rfl | rfl | rfl | rfl | rfl | rfl | rfl | rfl | rfl | rfl | rfl <;>
        exact BitVec.getLsbD_ofBoolListLE⟩

/-! The places of the rows of a list, in the order of the cycle. -/

theorem hasOneAt_iff {place : Nat} {rows : List Instr} :
    hasOneAt place rows = true ↔ (rows.map Instr.place).count place = 1 := by
  rw [hasOneAt, ← List.countP_eq_length_filter, List.count, List.countP_map, beq_iff_eq]
  rfl

theorem inCycleOrder_iff (rows : List Instr) :
    inCycleOrder rows = true ↔ (rows.map Instr.place).Pairwise (· < ·) := by
  rw [← List.isChain_iff_pairwise]
  fun_induction inCycleOrder rows with
  | case1 => simp
  | case2 => simp
  | case3 i k rest ih => simp [ih]

/-- What well-formedness says of the places: in order, and those of NEXT, B, OP and Shift occur. -/
theorem wellFormed_iff {rows : List Instr} : wellFormed rows = true ↔
    (rows.map Instr.place).Pairwise (· < ·) ∧ ∀ p < 4, p ∈ rows.map Instr.place := by
  simp only [wellFormed, hasOneNext, hasOneB, hasOneAlu, hasOneShift, Bool.and_eq_true, hasOneAt_iff, inCycleOrder_iff]
  constructor
  · rintro ⟨⟨⟨⟨h0, h1⟩, h2⟩, h3⟩, hsorted⟩
    refine ⟨hsorted, fun p hp => List.count_pos_iff.mp ?_⟩
    interval_cases p <;> omega
  · rintro ⟨hsorted, hmem⟩
    have hone (p : Nat) (hp : p < 4) : (rows.map Instr.place).count p = 1 :=
      List.count_eq_one_of_mem (hsorted.imp Nat.ne_of_lt) (hmem p hp)
    exact ⟨⟨⟨⟨hone 0 (by decide), hone 1 (by decide)⟩, hone 2 (by decide)⟩, hone 3 (by decide)⟩, hsorted⟩

/-- A place is held by one row at most. -/
theorem mem_iff_eq_of_place_eq {rows : List Instr} (hsorted : (rows.map Instr.place).Pairwise (· < ·)) {i k : Instr}
    (hk : k ∈ rows) (hplace : i.place = k.place) : i ∈ rows ↔ i = k :=
  ⟨fun hi => List.inj_on_of_nodup_map (hsorted.imp Nat.ne_of_lt) hi hk hplace, fun h => h ▸ hk⟩

/-- Lists in the order of the cycle with the same rows are the same list. -/
theorem eq_of_mem_iff_of_sorted {l k : List Instr} (hl : (l.map Instr.place).Pairwise (· < ·))
    (hk : (k.map Instr.place).Pairwise (· < ·)) (h : ∀ i, i ∈ l ↔ i ∈ k) : l = k := by
  have : Std.Irrefl (InvImage (· < ·) Instr.place) := inferInstance
  have : Std.Antisymm (InvImage (· < ·) Instr.place) := inferInstance
  have hmap {l : List Instr} := List.pairwise_map (f := Instr.place) (R := (· < ·)) (l := l)
  exact List.Pairwise.eq_of_mem_iff (r := InvImage (· < ·) Instr.place) (hmap.mp hl) (hmap.mp hk) h

/-! The rows of seven fields are well-formed (R90), and every well-formed list is the rows of seven fields. -/

theorem Micro.map_place_rows (m : Micro) :
    m.rows.map Instr.place = 0 :: 1 :: 2 :: 3 :: (bitRows.filter m.enables).map Instr.place := by
  rw [Micro.rows_eq]
  simp only [List.map_cons, place_rowOfB, place_rowOfOp, place_rowOfShift]
  rfl

theorem Micro.sorted_rows (m : Micro) : (m.rows.map Instr.place).Pairwise (· < ·) := by
  have hbits : ((bitRows.filter m.enables).map Instr.place).Sublist (bitRows.map Instr.place) :=
    List.filter_sublist.map _
  rw [Micro.map_place_rows]
  exact List.pairwise_lt_range.sublist (l₂ := List.range 19)
    ((((hbits.cons_cons 3).cons_cons 2).cons_cons 1).cons_cons 0)

theorem Micro.wellFormed_rows (m : Micro) : wellFormed m.rows = true := by
  refine wellFormed_iff.mpr ⟨m.sorted_rows, fun p hp => ?_⟩
  rw [Micro.map_place_rows]
  simp only [List.mem_cons]
  omega

/-- A well-formed list is the rows of seven fields: those that select its rows at places 0 to 3, and the masks of its
bit rows. -/
theorem exists_micro_of_wellFormed {rows : List Instr} (h : wellFormed rows = true) : ∃ m : Micro, m.rows = rows := by
  obtain ⟨hsorted, hplaces⟩ := wellFormed_iff.mp h
  have hrow (p : Nat) (hp : p < 4) : ∃ i ∈ rows, i.place = p := List.mem_map.mp (hplaces p hp)
  obtain ⟨_, hnext, hp0⟩ := hrow 0 (by decide)
  obtain ⟨_, hb, hp1⟩ := hrow 1 (by decide)
  obtain ⟨_, hop, hp2⟩ := hrow 2 (by decide)
  obtain ⟨_, hsh, hp3⟩ := hrow 3 (by decide)
  obtain ⟨next, rfl⟩ := exists_next hp0
  obtain ⟨b, rfl⟩ := exists_rowOfB hp1
  obtain ⟨op, rfl⟩ := exists_rowOfOp hp2
  obtain ⟨sh, rfl⟩ := exists_rowOfShift hp3
  obtain ⟨mem, c, j, hbits⟩ := exists_masks fun i => decide (i ∈ rows)
  refine ⟨⟨b, mem, c, op, sh, j, next⟩, eq_of_mem_iff_of_sorted (Micro.sorted_rows _) hsorted fun i => ?_⟩
  rw [Micro.rows_eq, hbits]
  simp only [List.mem_cons, List.mem_filter, mem_bitRows, decide_eq_true_eq]
  constructor
  · rintro (rfl | rfl | rfl | rfl | ⟨-, hi⟩) <;> assumption
  · intro hi
    have heq {k : Instr} (hk : k ∈ rows) (hplace : i.place = k.place) : i = k :=
      (mem_iff_eq_of_place_eq hsorted hk hplace).mp hi
    match hplace : i.place with
    | 0 => exact .inl (heq hnext hplace)
    | 1 => exact .inr (.inl (heq hb (hplace.trans hp1.symm)))
    | 2 => exact .inr (.inr (.inl (heq hop (hplace.trans hp2.symm))))
    | 3 => exact .inr (.inr (.inr (.inl (heq hsh (hplace.trans hp3.symm)))))
    | n + 4 => exact .inr (.inr (.inr (.inr ⟨by omega, hi⟩)))

/-! The encoder on the rows of seven fields (R92). -/

theorem encode_rowsOfC : ∀ c, encode (rowsOfC c) = c.setWidth 36 <<< 7 := by decide

/-- The encoder gives the word of the fields: each row contributes the bits of its own field. -/
theorem encode_rows (m : Micro) : encode m.rows = m.toWord := by
  have hhead : encode [.nextMpc m.next, rowOfB m.b, rowOfOp m.op, rowOfShift m.sh] =
      m.next.setWidth 36 <<< 27 ||| (m.b.setWidth 36 ||| (m.op.setWidth 36 <<< 16 ||| m.sh.setWidth 36 <<< 22)) := by
    simp only [encode, List.foldr_cons, List.foldr_nil, encodeRow_rowOfB, encodeRow_rowOfOp, encodeRow_rowOfShift,
      BitVec.ofNat_eq_ofNat, BitVec.or_zero]
    rfl
  rw [Micro.rows, encode_append, encode_append, encode_append, hhead, encode_rowsOfC, encode_rowsOfMem,
    encode_rowsOfJump, Micro.toWord]
  generalize m.b.setWidth 36 = b, m.mem.setWidth 36 <<< 4 = mem, m.c.setWidth 36 <<< 7 = c,
    m.op.setWidth 36 <<< 16 = op, m.sh.setWidth 36 <<< 22 = sh, m.j.setWidth 36 <<< 24 = j,
    m.next.setWidth 36 <<< 27 = next
  ac_rfl

theorem decode_encode {rows : List Instr} (h : wellFormed rows = true) : decode (encode rows) = rows := by
  obtain ⟨m, rfl⟩ := exists_micro_of_wellFormed h
  rw [encode_rows, decode, ofWord_toWord]

theorem encode_decode (w : MicroWord) : encode (decode w) = w := by
  rw [decode, encode_rows, toWord_ofWord]

/-- Settles O3: every well-formed list is the rows of seven fields, and those are the fields of its word. -/
theorem decodeAndEncodeAgree : Obligations.DecodeAndEncodeAgree :=
  ⟨fun _ h => decode_encode h, fun w => ⟨(Micro.ofWord w).wellFormed_rows, encode_decode w⟩⟩

/-! The masks and matches of the opcode table (R110). -/

/-- A value placed as a field is read back. -/
theorem extractLsb'_field {n k : Nat} (x : BitVec n) (hk : k + n ≤ 36) :
    ((x.setWidth 36 <<< k : MicroWord)).extractLsb' k n = x := by
  ext i hi
  have hlt : k + i < 36 := by omega
  simp [hlt, BitVec.getLsbD_eq_getElem hi]

/-- The bits of a field agree with a value exactly where the field has the value. -/
theorem and_field_eq_iff {n k : Nat} (w : MicroWord) (x : BitVec n) (hk : k + n ≤ 36) :
    w &&& (BitVec.allOnes n).setWidth 36 <<< k = x.setWidth 36 <<< k ↔ w.extractLsb' k n = x := by
  have hfield : w &&& (BitVec.allOnes n).setWidth 36 <<< k = (w.extractLsb' k n).setWidth 36 <<< k := by
    ext i hi
    by_cases hki : i < k
    · simp [hki]
    · have h : k + (i - k) = i := by omega
      simp [hki, h, BitVec.getLsbD_eq_getElem hi, Bool.and_comm]
  rw [hfield]
  refine ⟨fun h => ?_, fun h => h ▸ rfl⟩
  rw [← extractLsb'_field (w.extractLsb' k n) hk, h, extractLsb'_field x hk]

/-- A row of a field that selects by its value: the word selects it exactly when the word under its mask is its match. -/
theorem row_eq_selected_iff {n k : Nat} {row : BitVec n → Instr}
    (hmask : ∀ x, rowMask (row x) = (BitVec.allOnes n).setWidth 36 <<< k)
    (hmatch : ∀ x, rowMatch (row x) = x.setWidth 36 <<< k) (hk : k + n ≤ 36) (w : MicroWord) (x : BitVec n) :
    row x = row (w.extractLsb' k n) ↔ w &&& rowMask (row x) = rowMatch (row x) := by
  rw [hmask, hmatch, and_field_eq_iff w x hk]
  refine ⟨fun h => ?_, fun h => h ▸ rfl⟩
  have hbits := congrArg rowMatch h
  rw [hmatch, hmatch] at hbits
  rw [← extractLsb'_field x hk, hbits, extractLsb'_field _ hk]

theorem rowMask_rowOfB : ∀ b, rowMask (rowOfB b) = (BitVec.allOnes 4).setWidth 36 <<< 0 := by decide
theorem rowMask_rowOfOp : ∀ op, rowMask (rowOfOp op) = (BitVec.allOnes 6).setWidth 36 <<< 16 := by decide
theorem rowMask_rowOfShift : ∀ sh, rowMask (rowOfShift sh) = (BitVec.allOnes 2).setWidth 36 <<< 22 := by decide
theorem rowMatch_rowOfB : ∀ b, rowMatch (rowOfB b) = b.setWidth 36 <<< 0 := by decide
theorem rowMatch_rowOfOp : ∀ op, rowMatch (rowOfOp op) = op.setWidth 36 <<< 16 := by decide
theorem rowMatch_rowOfShift : ∀ sh, rowMatch (rowOfShift sh) = sh.setWidth 36 <<< 22 := by decide

/-- One bit of a mask field, as a mask on the word. -/
theorem getLsbD_field_iff (w : MicroWord) {s n i : Nat} (hi : i < n) (hw : s + i < 36) :
    (w.extractLsb' s n).getLsbD i = true ↔ w &&& BitVec.twoPow 36 (s + i) = BitVec.twoPow 36 (s + i) := by
  have hne : (0#36) ≠ BitVec.twoPow 36 (s + i) := fun h => by
    have := congrArg (·.getLsbD (s + i)) h
    simp [hw] at this
  rw [BitVec.getLsbD_extractLsb', BitVec.and_twoPow]
  cases w.getLsbD (s + i) <;> simp [hi, hne]

/-- A bit of a word enables its row exactly when the word under the row's mask is the row's match. -/
theorem enables_ofWord_iff (w : MicroWord) {i : Instr} (h : i ∈ bitRows) :
    (Micro.ofWord w).enables i = true ↔ w &&& rowMask i = rowMatch i := by
  simp only [bitRows, List.mem_cons, List.not_mem_nil, or_false] at h
  rcases h with rfl | rfl | rfl | rfl | rfl | rfl | rfl | rfl | rfl | rfl | rfl | rfl | rfl | rfl | rfl <;>
    exact getLsbD_field_iff w (by decide) (by decide)

/-- A bit row is none of the four rows before the bit rows, so it applies exactly when it is enabled. -/
theorem mem_decode_iff_of_bit (w : MicroWord) {i : Instr} (h : 4 ≤ i.place) :
    i ∈ decode w ↔ w &&& rowMask i = rowMatch i := by
  have hne {k : Instr} (hk : k.place < 4) : i ≠ k := fun hik => by subst hik; omega
  rw [decode, Micro.rows_eq, List.mem_cons, or_iff_right (hne (k := .nextMpc _) (Nat.zero_lt_succ 3)), List.mem_cons,
    or_iff_right (hne (by rw [place_rowOfB]; decide)), List.mem_cons, or_iff_right (hne (by rw [place_rowOfOp]; decide)),
    List.mem_cons, or_iff_right (hne (by rw [place_rowOfShift]; decide)), List.mem_filter,
    and_iff_right (mem_bitRows.mpr h), enables_ofWord_iff w (mem_bitRows.mpr h)]

/-- The row at a place that is no bit's: the one its field selects. -/
theorem mem_decode_iff_eq_selected (w : MicroWord) (i : Instr) :
    (i.place = 0 → (i ∈ decode w ↔ i = .nextMpc (w.extractLsb' 27 9))) ∧
    (i.place = 1 → (i ∈ decode w ↔ i = rowOfB (w.extractLsb' 0 4))) ∧
    (i.place = 2 → (i ∈ decode w ↔ i = rowOfOp (w.extractLsb' 16 6))) ∧
    (i.place = 3 → (i ∈ decode w ↔ i = rowOfShift (w.extractLsb' 22 2))) := by
  have hrow {k : Instr} (hk : k ∈ decode w) (hplace : i.place = k.place) : i ∈ decode w ↔ i = k :=
    mem_iff_eq_of_place_eq (Micro.sorted_rows _) hk hplace
  have hdecode : decode w = _ := Micro.rows_eq (Micro.ofWord w)
  refine ⟨fun h => hrow ?_ h, fun h => hrow ?_ (h.trans (place_rowOfB _).symm),
    fun h => hrow ?_ (h.trans (place_rowOfOp _).symm), fun h => hrow ?_ (h.trans (place_rowOfShift _).symm)⟩ <;>
    simp [hdecode, Micro.ofWord]

/-- Settles O4: each row by its place in the cycle, that is by the field that selects it. -/
theorem rowAppliesExactlyByMaskAndMatch : Obligations.RowAppliesExactlyByMaskAndMatch := by
  refine ⟨fun w i hi => ?_, fun w next => ?_⟩
  · obtain ⟨-, hb, hop, hsh⟩ := mem_decode_iff_eq_selected w i
    match hplace : i.place with
    | 0 =>
      obtain ⟨next, rfl⟩ := exists_next hplace
      exact absurd rfl (hi next)
    | 1 =>
      obtain ⟨b, rfl⟩ := exists_rowOfB hplace
      exact (hb hplace).trans (row_eq_selected_iff rowMask_rowOfB rowMatch_rowOfB (by decide) w b)
    | 2 =>
      obtain ⟨op, rfl⟩ := exists_rowOfOp hplace
      exact (hop hplace).trans (row_eq_selected_iff rowMask_rowOfOp rowMatch_rowOfOp (by decide) w op)
    | 3 =>
      obtain ⟨sh, rfl⟩ := exists_rowOfShift hplace
      exact (hsh hplace).trans (row_eq_selected_iff rowMask_rowOfShift rowMatch_rowOfShift (by decide) w sh)
    | n + 4 => exact mem_decode_iff_of_bit w (by omega)
  · obtain ⟨hnext, -⟩ := mem_decode_iff_eq_selected w (.nextMpc next)
    rw [hnext rfl, Instr.nextMpc.injEq]

/-! Control-store records (R103, R305). -/

/-- The low `n` bytes of a number, read back. -/
theorem littleEndian_bytesOfNat (n v : Nat) : littleEndian (bytesOfNat n v) = v % 256 ^ n := by
  induction n generalizing v with
  | zero => simp [bytesOfNat, littleEndian, Nat.mod_one]
  | succ n ih => rw [bytesOfNat, littleEndian, ih, Nat.pow_succ', Nat.mod_mul, BitVec.toNat_ofNat]

theorem length_bytesOfNat (n v : Nat) : (bytesOfNat n v).length = n := by
  induction n generalizing v with
  | zero => rfl
  | succ n ih => rw [bytesOfNat, List.length_cons, ih]

theorem length_recordOfWord (w : MicroWord) : (recordOfWord w).length = Config.romRecordBytes :=
  length_bytesOfNat _ _

theorem wordOfRecord_recordOfWord (w : MicroWord) : wordOfRecord (recordOfWord w) = w := by
  have hw : w.toNat < 256 ^ Config.romRecordBytes := lt_of_lt_of_le w.isLt (by decide)
  rw [wordOfRecord, recordOfWord, littleEndian_bytesOfNat, Nat.mod_eq_of_lt hw, BitVec.ofNat_toNat, BitVec.setWidth_eq]

theorem decodeRecord_of_length {record : List Byte} (h : record.length = Config.romRecordBytes) :
    decodeRecord record = .ok (decode (wordOfRecord record)) := if_pos h

/-- A word holds a number's low 36 bits (decision D3). -/
theorem wordOfRecord_eq_mod (record : List Byte) :
    wordOfRecord record = BitVec.ofNat 36 (littleEndian record % 2 ^ 36) := by
  apply BitVec.eq_of_toNat_eq
  rw [wordOfRecord, BitVec.toNat_ofNat, BitVec.toNat_ofNat, Nat.mod_mod]

/-- Settles O5: a record's word is its value modulo 2^36, and the value of the record of a word is the word's. -/
theorem recordsDecodeByTheirLowBits : Obligations.RecordsDecodeByTheirLowBits := by
  refine ⟨fun record h => ?_, fun record h => if_neg h, fun w => ?_⟩
  · rw [decodeRecord_of_length h, wordOfRecord_eq_mod]
  · rw [decodeRecord_of_length (length_recordOfWord w), wordOfRecord_recordOfWord]

/-! The spec's own words. -/

/-- Settles O1, by running the decoder on the six words. -/
theorem decodesWrittenWords : Obligations.DecodesWrittenWords := by
  unfold Obligations.DecodesWrittenWords
  decide

end Sys2Proof
end

section
/-! The obligations about executing words: none is illegal, and the zero word (30_encoding.md R102, R104). -/

namespace Sys2Proof.Machine

/-- Only the memory operations can fail (R271): every other row has one next state. -/
theorem exec_of_no_memory {i : Instr} (hfetch : i ≠ .memFetch) (hread : i ≠ .memRead) (hwrite : i ≠ .memWrite)
    (s : State) : ∃ t, exec i s = .next t := by
  match hplace : i.place with
  | 0 =>
    obtain ⟨next, rfl⟩ := exists_next hplace
    exact ⟨_, rfl⟩
  | 1 =>
    obtain ⟨b, rfl⟩ := exists_rowOfB hplace
    exact ⟨_, exec_rowOfB b s⟩
  | 2 =>
    obtain ⟨op, rfl⟩ := exists_rowOfOp hplace
    exact ⟨_, exec_rowOfOp op s⟩
  | 3 =>
    obtain ⟨sh, rfl⟩ := exists_rowOfShift hplace
    exact ⟨_, exec_rowOfShift sh s⟩
  | n + 4 =>
    have hbit : i ∈ bitRows := mem_bitRows.mpr (by omega)
    simp only [bitRows, List.mem_cons, List.not_mem_nil, or_false, hfetch, hread, hwrite, false_or] at hbit
    rcases hbit with rfl | rfl | rfl | rfl | rfl | rfl | rfl | rfl | rfl | rfl | rfl | rfl <;> exact ⟨_, rfl⟩

/-- The two outcomes R102 and R274 leave open: a next state, or the memory bounds fault. -/
def CompletesOrBoundsFault (r : Result) : Prop :=
  (∃ t, r = .next t) ∨ ∃ kind offset, r = .fault (.memoryBounds kind offset)

theorem CompletesOrBoundsFault.ne_refused {r : Result} (h : CompletesOrBoundsFault r) (q : Refusal) :
    r ≠ .refused q := by
  rintro rfl
  obtain ⟨t, ht⟩ | ⟨kind, offset, hf⟩ := h
  · cases ht
  · cases hf

theorem CompletesOrBoundsFault.andThen {r : Result} {k : State → Result} (h : CompletesOrBoundsFault r)
    (hk : ∀ t, CompletesOrBoundsFault (k t)) : CompletesOrBoundsFault (Machine.andThen r k) := by
  obtain ⟨t, rfl⟩ | ⟨kind, offset, rfl⟩ := h
  · exact hk t
  · exact .inr ⟨kind, offset, rfl⟩

/-- An access guarded by its bound. -/
theorem completesOrBoundsFault_ite (p : Prop) [Decidable p] (t : State) (kind : AccessKind) (offset : Nat) :
    CompletesOrBoundsFault (if p then .next t else .fault (.memoryBounds kind offset)) := by
  split
  · exact .inl ⟨_, rfl⟩
  · exact .inr ⟨_, _, rfl⟩

theorem exec_completesOrBoundsFault (i : Instr) (s : State) : CompletesOrBoundsFault (exec i s) := by
  by_cases hfetch : i = .memFetch
  · rw [hfetch, exec_memFetch]
    exact completesOrBoundsFault_ite _ _ _ _
  by_cases hread : i = .memRead
  · rw [hread, exec_memRead]
    exact completesOrBoundsFault_ite _ _ _ _
  by_cases hwrite : i = .memWrite
  · rw [hwrite, exec_memWrite]
    exact completesOrBoundsFault_ite _ _ _ _
  exact .inl (exec_of_no_memory hfetch hread hwrite s)

theorem runRows_completesOrBoundsFault (rows : List Instr) (s : State) : CompletesOrBoundsFault (runRows rows s) := by
  induction rows generalizing s with
  | nil => exact .inl ⟨s, rfl⟩
  | cons i rows ih => exact (exec_completesOrBoundsFault i s).andThen ih

theorem step_completesOrBoundsFault {s : State} (hs : s.status = .running) : CompletesOrBoundsFault (step s) := by
  rw [step_eq_cycle hs]
  exact (runRows_completesOrBoundsFault _ _).andThen fun t => .inl ⟨_, rfl⟩

/-- Settles O46: each row completes or takes the bounds fault, so a list of rows does, and with it the cycle. -/
theorem noWordIsRefusedAndOnlyMemoryFaults : Obligations.NoWordIsRefusedAndOnlyMemoryFaults := by
  refine ⟨fun i s => (exec_completesOrBoundsFault i s).ne_refused, fun s r => ?_,
    fun i s hfetch hread hwrite => exec_of_no_memory hfetch hread hwrite s, fun s hs => step_completesOrBoundsFault hs⟩
  cases hs : s.status with
  | running => exact (step_completesOrBoundsFault hs).ne_refused r
  | faulted => simp [step_of_faulted hs]

/-! The zero word: every field 0 (R104). -/

theorem fanOut_none (s : State) : fanOut 0 s = s := rfl
theorem afterMemory_none (s : State) : afterMemory 0 s = s := rfl

theorem jumpStage_none (s : State) : jumpStage 0 s = s := by
  show s.setMpc (s.mpc ||| 0 ||| 0 ||| 0) = s
  simp [State.setMpc]

/-- Settles O48: the zero word enables nothing, so the cycle is what the B, OP, Shift and NEXT rows leave, and the ALU
output is 0. -/
theorem zeroWordReturnsToIndexZero : Obligations.ZeroWordReturnsToIndexZero := by
  intro s hs hword
  have hfields : nextMicro s = ⟨0, 0, 0, 0, 0, 0, 0⟩ := by rw [nextMicro, hword]; rfl
  have halu : nextAlu s = 0 := by rw [nextAlu, hfields]; rfl
  have hsafe : SafeState s := ⟨hs, by simp [CycleInBounds, hfields]⟩
  refine step_eq_next.mpr ⟨hsafe, ?_⟩
  rw [afterCycle, beforeMemory_eq, halu, hfields, hword, fanOut_none, afterMemory_none, jumpStage_none]
  simp [State.setMir, State.setMpc, State.setB, State.setFlags, State.setC, State.setAluOut, bSelect, shiftOf]

end Sys2Proof.Machine
end

section
/-! The obligations about the sequencing rows: NEXT copies its operand, and NEXT and the Jump rows write MPC alone
(40_decode.md R122, 45_jump_nextmpc.md R230). -/

namespace Sys2Proof.Machine

/-- NEXT copies its operand into MPC (R122). -/
theorem exec_nextMpc (next : MicroAddr) (s : State) : exec (.nextMpc next) s = .next (s.setMpc next) := rfl

/-- The rows after the memory operations are the three Jump rows (R99). -/
theorem jump_row_of_place {i : Instr} (h : 16 ≤ i.place) : i = .jamN ∨ i = .jamZ ∨ i = .jmpC := by
  have hlast : ∀ k ∈ bitRows, 16 ≤ k.place → k = .jamN ∨ k = .jamZ ∨ k = .jmpC := by decide
  exact hlast i (mem_bitRows.mpr (by omega)) h

/-- A Jump row ORs one value into MPC (R230). -/
theorem exec_jump_row {i : Instr} (h : 16 ≤ i.place) (s : State) : ∃ v, exec i s = .next (s.setMpc (s.mpc ||| v)) := by
  rcases jump_row_of_place h with rfl | rfl | rfl
  · exact ⟨flagAtBit8 s.n, rfl⟩
  · exact ⟨flagAtBit8 s.z, rfl⟩
  · exact ⟨mbrIndex s, rfl⟩

/-- All a sequencing row can do, whatever the state: complete, with a new value in MPC. -/
theorem exec_sequencing_row {i : Instr} (h : i.place = 0 ∨ 16 ≤ i.place) (s : State) :
    ∃ v, exec i s = .next (s.setMpc v) := by
  rcases h with hnext | hjump
  · obtain ⟨next, rfl⟩ := exists_next hnext
    exact ⟨next, exec_nextMpc next s⟩
  · obtain ⟨v, hv⟩ := exec_jump_row hjump s
    exact ⟨s.mpc ||| v, hv⟩

/-- Settles O36: a sequencing row is a write of MPC, and that leaves every other cell. -/
theorem sequencingRowsFrame : Obligations.SequencingRowsFrame := by
  intro i s hplace
  obtain ⟨v, hexec⟩ := exec_sequencing_row hplace s
  refine ⟨s.setMpc v, hexec, ?_⟩
  simp [SameDestinations, SameFlags, SameControl, SameBytes]

/-- NEXT with bits 35..27 is the first row of every word (R100). -/
theorem head?_decode (w : MicroWord) : (decode w).head? = some (.nextMpc (w.extractLsb' 27 9)) := by
  rw [decode, Micro.rows_eq, List.head?_cons, Micro.ofWord]

/-- Settles O32: the row's one next state, and the head of the decoded list. -/
theorem nextFieldSetsMpc : Obligations.NextFieldSetsMpc :=
  ⟨exec_nextMpc, head?_decode⟩

end Sys2Proof.Machine
end

section
/-! The obligations about the B-bus selectors (41_bbus.md R130 to R140): a row by the law of the B rows, a cycle by the
source its selector names, read at the start of the cycle. With them the frame of the B, OP and Shift rows. -/

namespace Sys2Proof.Machine

/-- The B latch after a cycle holds the source the selector names, as it was before the cycle (R130, R131). -/
theorem afterCycle_b (s : State) : (afterCycle s).b = bSelect (nextMicro s).b s := by simp [afterCycle]

theorem b_of_step {s t : State} {b : BitVec 4} (hstep : step s = .next t) (hb : (nextMicro s).b = b) :
    t.b = bSelect b s := by
  obtain ⟨-, rfl⟩ := step_eq_next.mp hstep
  rw [afterCycle_b, hb]

/-- Settles O6: the seven selectors name a register, in the row and in the cycle. -/
theorem busSelectorsDriveTheirRegister : Obligations.BusSelectorsDriveTheirRegister :=
  ⟨fun s => ⟨exec_rowOfB 0 s, exec_rowOfB 1 s, exec_rowOfB 4 s, exec_rowOfB 5 s, exec_rowOfB 6 s, exec_rowOfB 7 s,
    exec_rowOfB 8 s⟩,
   fun _ _ hstep => ⟨b_of_step hstep, b_of_step hstep, b_of_step hstep, b_of_step hstep, b_of_step hstep,
    b_of_step hstep, b_of_step hstep⟩⟩

/-! The two selectors that widen MBR. -/

theorem bSelect_mbrU (s : State) : bSelect 3 s = BitVec.ofNat 32 s.mbr.toNat := by
  rw [BitVec.ofNat_toNat]
  rfl

/-- A byte from 0x80 on has its sign bit set, and sign extension puts ones above it (R133). -/
theorem bSelect_mbrS_of_ge {s : State} (h : 0x80 ≤ s.mbr.toNat) :
    bSelect 2 s = BitVec.ofNat 32 (s.mbr.toNat + 0xFFFFFF00) := by
  have hsign : s.mbr.msb = true := by simpa [BitVec.msb_eq_decide] using h
  have hbyte : s.mbr.toNat < 0x100 := s.mbr.isLt
  show s.mbr.signExtend 32 = _
  apply BitVec.eq_of_toNat_eq
  rw [BitVec.toNat_signExtend, if_pos hsign, BitVec.toNat_setWidth, BitVec.toNat_ofNat]
  omega

theorem bSelect_mbrS_of_lt {s : State} (h : s.mbr.toNat < 0x80) : bSelect 2 s = BitVec.ofNat 32 s.mbr.toNat := by
  have hsign : s.mbr.msb = false := by simpa [BitVec.msb_eq_decide] using h
  show s.mbr.signExtend 32 = _
  rw [BitVec.signExtend_eq_setWidth_of_msb_false hsign, BitVec.ofNat_toNat]

/-- R133, both cases. -/
theorem bSelect_mbrS (s : State) : bSelect 2 s =
    if 0x80 ≤ s.mbr.toNat then BitVec.ofNat 32 (s.mbr.toNat + 0xFFFFFF00) else BitVec.ofNat 32 s.mbr.toNat := by
  split
  · exact bSelect_mbrS_of_ge ‹_›
  · exact bSelect_mbrS_of_lt (by omega)

/-- Settles O7: the value of each selector is MBR widened, by the sign of the byte for selector 2. -/
theorem busSelectorsWidenMbr : Obligations.BusSelectorsWidenMbr := by
  refine ⟨fun s => ⟨?_, ?_⟩, fun s t hstep => ⟨fun hb hneg => ?_, fun hb hpos => ?_, fun hb => ?_⟩⟩
  · rw [← bSelect_mbrS]
    exact exec_rowOfB 2 s
  · rw [← bSelect_mbrU]
    exact exec_rowOfB 3 s
  · rw [b_of_step hstep hb, bSelect_mbrS_of_ge hneg]
  · rw [b_of_step hstep hb, bSelect_mbrS_of_lt hpos]
  · rw [b_of_step hstep hb, bSelect_mbrU]

/-! The seven selectors with no source. -/

theorem bSelect_undefined {b : BitVec 4} (h : 9 ≤ b.toNat) (s : State) : bSelect b s = 0xFFFFFFFF#32 := by
  have hne (k : BitVec 4) (hk : k.toNat < 9) : b ≠ k := by
    rintro rfl
    omega
  simp only [bSelect, hne 0 (by decide), hne 1 (by decide), hne 2 (by decide), hne 3 (by decide), hne 4 (by decide),
    hne 5 (by decide), hne 6 (by decide), hne 7 (by decide), hne 8 (by decide), if_false]

/-- Settles O8: from 9 on a selector value names no register, and the bus carries ones. -/
theorem undefinedBusSelectorsDriveAllOnes : Obligations.UndefinedBusSelectorsDriveAllOnes := by
  refine ⟨fun s => ⟨exec_rowOfB 9 s, exec_rowOfB 10 s, exec_rowOfB 11 s, exec_rowOfB 12 s, exec_rowOfB 13 s,
    exec_rowOfB 14 s, exec_rowOfB 15 s⟩, fun s t hstep hb => ?_⟩
  rw [b_of_step hstep rfl, bSelect_undefined hb]

/-! The frame of the three kinds of row. -/

/-- Settles O33: a B row is a write of the B latch, an OP row one of the wire and the flags, a Shift row one of the C
latch, and each leaves every other cell. -/
theorem busAluAndShifterRowsFrame : Obligations.BusAluAndShifterRowsFrame := by
  intro i s t hfirst hlast hexec
  obtain hb | hop | hsh : i.place = 1 ∨ i.place = 2 ∨ i.place = 3 := by omega
  · obtain ⟨b, rfl⟩ := exists_rowOfB hb
    cases (exec_rowOfB b s).symm.trans hexec
    simp [SameDestinations, SameControl, SameBytes, SameFlags, place_rowOfB]
  · obtain ⟨op, rfl⟩ := exists_rowOfOp hop
    cases (exec_rowOfOp op s).symm.trans hexec
    simp [SameDestinations, SameControl, SameBytes, SameFlags, place_rowOfOp]
  · obtain ⟨sh, rfl⟩ := exists_rowOfShift hsh
    cases (exec_rowOfShift sh s).symm.trans hexec
    simp [SameDestinations, SameControl, SameBytes, SameFlags, place_rowOfShift]

end Sys2Proof.Machine
end

section
/-! What the ALU and the shifter leave after a row and after a completed cycle (42_alu_shifter_flags.md R150 to R176,
43_cbus.md R190): the flags and the C latch from the cycle's ALU output, the destinations from the C latch. -/

namespace Sys2Proof.Machine

/-- Every OP row leaves the state with its function of H and the B latch as the ALU output (R150, R170). -/
theorem exec_rowOfOp_eq_afterAlu (op : BitVec 6) {s : State} {a : Word} (ha : aluOf op s.h s.b = a) :
    exec (rowOfOp op) s = .next (s.afterAlu a) := by
  rw [exec_rowOfOp, State.flagsOf_eq, ha]
  rfl

section
variable {s t : State} (hstep : step s = .next t)
include hstep

theorem eq_afterCycle_of_step : t = afterCycle s := by
  obtain ⟨-, ht⟩ := step_eq_next.mp hstep
  exact ht

/-- The ALU output of a completed cycle: H of the start of the cycle, the B latch as the cycle leaves it (R150). -/
theorem nextAlu_of_step {op : BitVec 6} (hop : (nextMicro s).op = op) : nextAlu s = aluOf op s.h t.b := by
  rw [b_of_step hstep rfl, ← hop, nextAlu]

/-! The flags (R170). -/

theorem z_of_step : t.z = decide (nextAlu s = 0) := by simp [eq_afterCycle_of_step hstep, afterCycle]

theorem n_of_step : t.n = decide (nextAlu s ≠ 0) := by simp [eq_afterCycle_of_step hstep, afterCycle]

theorem flags_of_step_zero (ha : nextAlu s = 0) : t.z = true ∧ t.n = false :=
  ⟨(z_of_step hstep).trans (decide_eq_true ha), (n_of_step hstep).trans (decide_eq_false (not_not_intro ha))⟩

theorem flags_of_step_nonzero (ha : nextAlu s ≠ 0) : t.z = false ∧ t.n = true :=
  ⟨(z_of_step hstep).trans (decide_eq_false ha), (n_of_step hstep).trans (decide_eq_true ha)⟩

/-! The C latch (R175). -/

theorem c_of_step {sh : BitVec 2} (hsh : (nextMicro s).sh = sh) : t.c = shiftOf sh (nextAlu s) := by
  simp [eq_afterCycle_of_step hstep, afterCycle, hsh]

/-- With Shift 0 the C latch holds the value of the operation itself (R172). -/
theorem c_of_step_unshifted {op : BitVec 6} {a : Word} (hsh : (nextMicro s).sh = 0) (ha : aluOf op s.h t.b = a)
    (hop : (nextMicro s).op = op) : t.c = a := by
  rw [c_of_step hstep hsh, nextAlu_of_step hstep hop, ha]
  rfl

/-! The destinations (R190): each enabled one holds the C latch, each other its value of before the cycle. -/

theorem mar_of_step : t.mar = if (nextMicro s).c.getLsbD 0 then t.c else s.mar := by
  simp [eq_afterCycle_of_step hstep, afterCycle]
theorem pc_of_step : t.pc = if (nextMicro s).c.getLsbD 2 then t.c else s.pc := by
  simp [eq_afterCycle_of_step hstep, afterCycle]
theorem sp_of_step : t.sp = if (nextMicro s).c.getLsbD 3 then t.c else s.sp := by
  simp [eq_afterCycle_of_step hstep, afterCycle]
theorem lv_of_step : t.lv = if (nextMicro s).c.getLsbD 4 then t.c else s.lv := by
  simp [eq_afterCycle_of_step hstep, afterCycle]
theorem cpp_of_step : t.cpp = if (nextMicro s).c.getLsbD 5 then t.c else s.cpp := by
  simp [eq_afterCycle_of_step hstep, afterCycle]
theorem tos_of_step : t.tos = if (nextMicro s).c.getLsbD 6 then t.c else s.tos := by
  simp [eq_afterCycle_of_step hstep, afterCycle]
theorem opc_of_step : t.opc = if (nextMicro s).c.getLsbD 7 then t.c else s.opc := by
  simp [eq_afterCycle_of_step hstep, afterCycle]
theorem h_of_step : t.h = if (nextMicro s).c.getLsbD 8 then t.c else s.h := by
  simp [eq_afterCycle_of_step hstep, afterCycle]

/-- MDR is a destination like the others where no memory read loads it (R216). -/
theorem mdr_of_step (hread : (nextMicro s).mem.getLsbD 1 = false) :
    t.mdr = if (nextMicro s).c.getLsbD 1 then t.c else s.mdr := by
  rw [c_of_step hstep rfl, eq_afterCycle_of_step hstep, afterCycle_mdr, afterMemory_mdr, hread, beforeMemory_mdr]
  rfl

end

end Sys2Proof.Machine
end

section
/-! The values of the ALU's functions and the shifts, as integers modulo 2^32 (R151 to R166, R172 to R174). -/

namespace Sys2Proof.Machine

theorem Word.not_eq_ofNat (x : Word) : ~~~ x = BitVec.ofNat 32 (0xFFFFFFFF - x.toNat) := by
  rw [← BitVec.toNat_inj, BitVec.toNat_not, BitVec.toNat_ofNat]
  omega

theorem Word.add_eq_ofNat (x y : Word) : x + y = BitVec.ofNat 32 ((x.toNat + y.toNat) % 2 ^ 32) := by
  rw [← BitVec.toNat_inj, BitVec.toNat_add, BitVec.toNat_ofNat, Nat.mod_mod]

theorem Word.sub_eq_ofInt (x y : Word) : x - y = BitVec.ofInt 32 ((x.toNat : Int) - (y.toNat : Int)) := by
  rw [← BitVec.toInt_inj, BitVec.toInt_sub, BitVec.toInt_ofInt, BitVec.toInt_eq_toNat_bmod, BitVec.toInt_eq_toNat_bmod]
  simp

/-- Logical left by 8 is multiplication by 256; what leaves the word is lost (R173). -/
theorem Word.shiftLeft_eight_eq_ofNat (x : Word) : x <<< 8 = BitVec.ofNat 32 (x.toNat * 256 % 2 ^ 32) := by
  rw [← BitVec.toNat_inj, BitVec.toNat_shiftLeft, Nat.shiftLeft_eq, BitVec.toNat_ofNat, Nat.mod_mod]

/-- Logical right by 1 is division by 2 (R174). -/
theorem Word.shiftRight_one_eq_ofNat (x : Word) : x >>> 1 = BitVec.ofNat 32 (x.toNat / 2) := by
  rw [← BitVec.toNat_inj, BitVec.toNat_ushiftRight, Nat.shiftRight_one, BitVec.toNat_ofNat]
  omega

section
variable (h b : Word)

theorem aluOf_notH : aluOf 26 h b = BitVec.ofNat 32 (0xFFFFFFFF - h.toNat) := Word.not_eq_ofNat h

theorem aluOf_notB : aluOf 44 h b = BitVec.ofNat 32 (0xFFFFFFFF - b.toNat) := Word.not_eq_ofNat b

theorem aluOf_bInc : aluOf 53 h b = BitVec.ofNat 32 ((b.toNat + 1) % 2 ^ 32) := Word.add_eq_ofNat b 1

theorem aluOf_bDec : aluOf 54 h b = BitVec.ofInt 32 ((b.toNat : Int) - 1) := Word.sub_eq_ofInt b 1

theorem aluOf_hInc : aluOf 57 h b = BitVec.ofNat 32 ((h.toNat + 1) % 2 ^ 32) := Word.add_eq_ofNat h 1

theorem aluOf_negH : aluOf 59 h b = BitVec.ofInt 32 (0 - (h.toNat : Int)) :=
  (BitVec.zero_sub h).symm.trans (Word.sub_eq_ofInt 0 h)

theorem aluOf_add : aluOf 60 h b = BitVec.ofNat 32 ((h.toNat + b.toNat) % 2 ^ 32) := Word.add_eq_ofNat h b

/-- One reduction at the end gives what the two additions give one after the other (R164). -/
theorem aluOf_addInc : aluOf 61 h b = BitVec.ofNat 32 ((h.toNat + b.toNat + 1) % 2 ^ 32) := by
  show h + b + 1 = _
  rw [Word.add_eq_ofNat, BitVec.toNat_add]
  exact congrArg (BitVec.ofNat 32) (Nat.mod_add_mod _ _ _)

theorem aluOf_bMinusH : aluOf 63 h b = BitVec.ofInt 32 ((b.toNat : Int) - (h.toNat : Int)) := Word.sub_eq_ofInt b h

end

/-- The fifteen operation codes with a function (R97). -/
def definedOps : List (BitVec 6) := [12, 17, 18, 20, 24, 26, 28, 44, 53, 54, 57, 59, 60, 61, 63]

/-- Every other code yields 0, whatever the operands (R166). -/
theorem aluOf_of_not_mem_definedOps {op : BitVec 6} (hop : op ∉ definedOps) (h b : Word) : aluOf op h b = 0 := by
  simp only [definedOps, List.mem_cons, not_or] at hop
  simp only [aluOf, hop, if_false]

/-- No shift makes a bit out of 0. -/
theorem shiftOf_zero : ∀ sh, shiftOf sh 0 = 0 := by decide

end Sys2Proof.Machine
end

section
/-! The obligations about the ALU, the flags and the shifter (42_alu_shifter_flags.md R150 to R176): a row by the law of
the OP or Shift rows, a cycle by its ALU output. -/

namespace Sys2Proof.Machine

/-- Settles O14: both flags are of the cycle's ALU output, which no shift has touched. -/
theorem flagsComeFromTheUnshiftedAluOutput : Obligations.FlagsComeFromTheUnshiftedAluOutput :=
  fun _ _ hstep => ⟨flags_of_step_zero hstep, flags_of_step_nonzero hstep⟩

/-- Settles O9: five codes, each with its function in the row and in the C latch of an unshifted cycle. -/
theorem logicalOperationsYieldTheirValue : Obligations.LogicalOperationsYieldTheirValue := by
  refine ⟨fun s => ⟨?_, ?_, ?_, ?_, ?_⟩, rfl, rfl, rfl, rfl, rfl, fun s t hstep hsh => ⟨?_, ?_, ?_, ?_, ?_⟩⟩
  · exact exec_rowOfOp_eq_afterAlu 12 rfl
  · exact exec_rowOfOp_eq_afterAlu 24 rfl
  · exact exec_rowOfOp_eq_afterAlu 26 (aluOf_notH _ _)
  · exact exec_rowOfOp_eq_afterAlu 28 rfl
  · exact exec_rowOfOp_eq_afterAlu 44 (aluOf_notB _ _)
  · exact c_of_step_unshifted hstep hsh rfl
  · exact c_of_step_unshifted hstep hsh rfl
  · exact c_of_step_unshifted hstep hsh (aluOf_notH _ _)
  · exact c_of_step_unshifted hstep hsh rfl
  · exact c_of_step_unshifted hstep hsh (aluOf_notB _ _)

/-- Settles O10: seven codes, each the integer result reduced once, in the row and in the C latch of an unshifted cycle;
TOS receives the C latch. -/
theorem arithmeticIsModulo2Pow32 : Obligations.ArithmeticIsModulo2Pow32 := by
  refine ⟨fun s => ⟨?_, ?_, ?_, ?_, ?_, ?_, ?_⟩, rfl, rfl, rfl, rfl, rfl, rfl, rfl,
    fun s t hstep hsh => ⟨?_, ?_, ?_, ?_, ?_, ?_, fun hop => ?_⟩⟩
  · exact exec_rowOfOp_eq_afterAlu 53 (aluOf_bInc _ _)
  · exact exec_rowOfOp_eq_afterAlu 54 (aluOf_bDec _ _)
  · exact exec_rowOfOp_eq_afterAlu 57 (aluOf_hInc _ _)
  · exact exec_rowOfOp_eq_afterAlu 59 (aluOf_negH _ _)
  · exact exec_rowOfOp_eq_afterAlu 60 (aluOf_add _ _)
  · exact exec_rowOfOp_eq_afterAlu 61 (aluOf_addInc _ _)
  · exact exec_rowOfOp_eq_afterAlu 63 (aluOf_bMinusH _ _)
  · exact c_of_step_unshifted hstep hsh (aluOf_bInc _ _)
  · exact c_of_step_unshifted hstep hsh (aluOf_bDec _ _)
  · exact c_of_step_unshifted hstep hsh (aluOf_hInc _ _)
  · exact c_of_step_unshifted hstep hsh (aluOf_negH _ _)
  · exact c_of_step_unshifted hstep hsh (aluOf_add _ _)
  · exact c_of_step_unshifted hstep hsh (aluOf_addInc _ _)
  · have hc := c_of_step_unshifted hstep hsh (aluOf_bMinusH _ _) hop
    refine ⟨hc, fun hbit => ?_⟩
    rw [tos_of_step hstep, if_pos hbit, hc]

/-- Settles O12: the C latch holds the B latch, and every enabled destination receives the C latch. -/
theorem moveCopiesTheBusToEveryEnabledRegister : Obligations.MoveCopiesTheBusToEveryEnabledRegister := by
  refine ⟨rfl, fun s => exec_rowOfOp_eq_afterAlu 20 rfl, fun s t hstep hop hsh => ?_⟩
  have hc : t.c = t.b := c_of_step_unshifted hstep hsh rfl hop
  rw [← hc, mar_of_step hstep, pc_of_step hstep, sp_of_step hstep, lv_of_step hstep, cpp_of_step hstep,
    tos_of_step hstep, opc_of_step hstep, h_of_step hstep]
  refine ⟨(if_pos ·), (if_pos ·), (if_pos ·), (if_pos ·), (if_pos ·), (if_pos ·), (if_pos ·), (if_pos ·),
    fun hbit hread => ?_⟩
  rw [mdr_of_step hstep hread, if_pos hbit]

/-- A completed cycle whose ALU output is a known nonzero value: its flags, and the C latch under each shift. -/
theorem cycle_of_nonzero_output {s t : State} {a : Word} (hstep : step s = .next t) (ha : nextAlu s = a)
    (hne : a ≠ 0) : t.z = false ∧ t.n = true ∧ ∀ sh, (nextMicro s).sh = sh → t.c = shiftOf sh a := by
  obtain ⟨hz, hn⟩ := flags_of_step_nonzero hstep (ha ▸ hne)
  exact ⟨hz, hn, fun sh hsh => ha ▸ c_of_step hstep hsh⟩

/-- Settles O11: the two codes give a constant, and each shift of it is computed. -/
theorem constantOperationsIgnoreTheirOperands : Obligations.ConstantOperationsIgnoreTheirOperands := by
  refine ⟨fun s => ⟨exec_rowOfOp_eq_afterAlu 17 rfl, exec_rowOfOp_eq_afterAlu 18 rfl⟩, rfl, rfl,
    fun s t hstep hop => ?_, fun s t hstep hop => ?_⟩
  · have hone : nextAlu s = 0x00000001#32 := nextAlu_of_step hstep hop
    obtain ⟨hz, hn, hc⟩ := cycle_of_nonzero_output hstep hone (by decide)
    exact ⟨hz, hn, hc 0, hc 1, hc 2⟩
  · have hones : nextAlu s = 0xFFFFFFFF#32 := nextAlu_of_step hstep hop
    obtain ⟨hz, hn, hc⟩ := cycle_of_nonzero_output hstep hones (by decide)
    exact ⟨hz, hn, hc 0, hc 1, hc 2⟩

/-- The row of a code with no function, in every state (R166). -/
theorem exec_rowOfOp_undefined {op : BitVec 6} (hop : op ∉ definedOps) (s : State) :
    exec (rowOfOp op) s = .next { s with aluOut := 0, n := false, z := true } :=
  exec_rowOfOp_eq_afterAlu op (aluOf_of_not_mem_definedOps hop s.h s.b)

/-- Settles O13: the 49 rows are those of the codes with no function; their output 0 sets Z, and every shift of 0 is 0. -/
theorem undefinedOperationsYieldZero : Obligations.UndefinedOperationsYieldZero := by
  refine ⟨fun i hi s => ?_, fun op hop => ⟨exec_rowOfOp_undefined hop, fun s t hstep heq => ?_⟩⟩
  · obtain ⟨op, hop, rfl⟩ : ∃ op, op ∉ definedOps ∧ rowOfOp op = i := by
      revert i
      decide
    exact exec_rowOfOp_undefined hop s
  · have ha : nextAlu s = 0 := (nextAlu_of_step hstep heq).trans (aluOf_of_not_mem_definedOps hop _ _)
    obtain ⟨hz, hn⟩ := flags_of_step_zero hstep ha
    refine ⟨hz, hn, ?_⟩
    rw [c_of_step hstep rfl, ha, shiftOf_zero]

/-- Settles O15: each shifter code by its row and by the C latch of a cycle, the shifts as arithmetic on the output. -/
theorem shifterPassesShiftsLeftEightOrRightOne : Obligations.ShifterPassesShiftsLeftEightOrRightOne := by
  refine ⟨fun s => ⟨exec_rowOfShift 0 s, ?_, ?_⟩, rfl, rfl, rfl, fun s t hstep => ⟨c_of_step hstep, ?_, ?_⟩⟩
  · rw [← Word.shiftLeft_eight_eq_ofNat]
    exact exec_rowOfShift 1 s
  · rw [← Word.shiftRight_one_eq_ofNat]
    exact exec_rowOfShift 2 s
  · rw [← Word.shiftLeft_eight_eq_ofNat]
    exact c_of_step hstep
  · rw [← Word.shiftRight_one_eq_ofNat]
    exact c_of_step hstep

/-- Settles O16: the fourth shifter code passes the ALU output on, in the row and in the cycle. -/
theorem reservedShiftPassesThrough : Obligations.ReservedShiftPassesThrough :=
  ⟨rfl, exec_rowOfShift 3, fun _ _ hstep => c_of_step hstep⟩

end Sys2Proof.Machine
end

section
/-! The obligations about the C-bus (43_cbus.md R190 to R202): a C row writes the C latch to its one register, and a
completed cycle does so for every register its C field enables. -/

namespace Sys2Proof.Machine

/-- The rows between the shifter and the memory operations are the nine C rows (R96). -/
theorem c_row_of_place {i : Instr} (hfirst : 4 ≤ i.place) (hlast : i.place ≤ 12) :
    i = .cMar ∨ i = .cMdr ∨ i = .cPc ∨ i = .cSp ∨ i = .cLv ∨ i = .cCpp ∨ i = .cTos ∨ i = .cOpc ∨ i = .cH := by
  have hc : ∀ k ∈ bitRows, k.place ≤ 12 → k = .cMar ∨ k = .cMdr ∨ k = .cPc ∨ k = .cSp ∨ k = .cLv ∨ k = .cCpp ∨
    k = .cTos ∨ k = .cOpc ∨ k = .cH := by decide
  exact hc i (mem_bitRows.mpr hfirst) hlast

/-- The C rows stand in the cycle in the order of their bits, which start at bit 7 of the word (R96). -/
theorem mem_decode_c_row_iff (w : MicroWord) {i : Instr} (hfirst : 4 ≤ i.place) (hlast : i.place ≤ 12) :
    i ∈ decode w ↔ w.getLsbD (i.place + 3) = true := by
  have hbit : (Micro.ofWord w).enables i = w.getLsbD (i.place + 3) := by
    obtain rfl | rfl | rfl | rfl | rfl | rfl | rfl | rfl | rfl := c_row_of_place hfirst hlast
    all_goals exact BitVec.getLsbD_extractLsb' 7 9 w _
  rw [mem_decode_iff_of_bit w hfirst, ← enables_ofWord_iff w (mem_bitRows.mpr hfirst), hbit]

/-- Settles O17: the nine rows by their meanings, and each in a word by the bit of its place. -/
theorem fanOutRowsWriteTheirRegister : Obligations.FanOutRowsWriteTheirRegister := by
  refine ⟨fun s => ⟨rfl, rfl, rfl, rfl, rfl, rfl, rfl, rfl, rfl⟩, fun w => ⟨?_, ?_, ?_, ?_, ?_, ?_, ?_, ?_, ?_⟩⟩
  all_goals exact mem_decode_c_row_iff w (by decide) (by decide)

/-- Settles O34: each of the nine rows is one register write, and that leaves every other cell. -/
theorem fanOutRowsFrame : Obligations.FanOutRowsFrame := by
  intro i s t hfirst hlast hexec
  obtain rfl | rfl | rfl | rfl | rfl | rfl | rfl | rfl | rfl := c_row_of_place hfirst hlast
  all_goals
    cases hexec
    simp [SameFlags, SameControl, SameBytes]

/-- Settles O18: the C latch and the flags are of the cycle's ALU output, and each register holds what its bit of the C
field says. -/
theorem enabledRegistersReceiveTheResult : Obligations.EnabledRegistersReceiveTheResult :=
  fun _ _ hstep => ⟨c_of_step hstep rfl, z_of_step hstep, n_of_step hstep, mar_of_step hstep, pc_of_step hstep,
    sp_of_step hstep, lv_of_step hstep, cpp_of_step hstep, tos_of_step hstep, opc_of_step hstep, h_of_step hstep,
    mdr_of_step hstep⟩

end Sys2Proof.Machine
end

section
/-! The obligations about the memory operations (44_memop.md R210 to R218): when each row completes and what it leaves,
and what a completed cycle leaves in MBR, MDR and main memory by its three Mem bits. -/

namespace Sys2Proof.Machine

/-! The three rows: each completes exactly in bounds, with one cell changed, and faults elsewhere (R211 to R213). -/

theorem exec_memFetch_eq_next {s t : State} : exec .memFetch s = .next t ↔
    s.pc.toNat < Config.memBytes ∧ t = s.setMbr (s.mem.byteAt s.pc.toNat) := by
  simp [exec_memFetch, fetchIf_eq_next]

theorem exec_memRead_eq_next {s t : State} : exec .memRead s = .next t ↔
    wordOffset s.mar + 3 < Config.memBytes ∧ t = s.setMdr (s.mem.wordAt (wordOffset s.mar)) := by
  simp [exec_memRead, readIf_eq_next]

theorem exec_memWrite_eq_next {s t : State} : exec .memWrite s = .next t ↔
    wordOffset s.mar + 3 < Config.memBytes ∧ t = s.setMem (s.mem.setWord (wordOffset s.mar) s.mdr) := by
  simp [exec_memWrite, writeIf_eq_next]

theorem exec_memFetch_of_le {s : State} (h : Config.memBytes ≤ s.pc.toNat) :
    exec .memFetch s = .fault (.memoryBounds .fetch s.pc.toNat) := by
  rw [exec_memFetch, fetchIf, if_pos rfl, if_neg (Nat.not_lt.mpr h)]

theorem exec_memRead_of_le {s : State} (h : Config.memBytes ≤ wordOffset s.mar + 3) :
    exec .memRead s = .fault (.memoryBounds .read (wordOffset s.mar)) := by
  rw [wordOffset] at h ⊢
  rw [exec_memRead, readIf, if_pos rfl, if_neg (Nat.not_lt.mpr h)]

theorem exec_memWrite_of_le {s : State} (h : Config.memBytes ≤ wordOffset s.mar + 3) :
    exec .memWrite s = .fault (.memoryBounds .write (wordOffset s.mar)) := by
  rw [wordOffset] at h ⊢
  rw [exec_memWrite, writeIf, if_pos rfl, if_neg (Nat.not_lt.mpr h)]

/-- Settles O19: the fetch's one completion and its fault, PC below the bound and from it on. -/
theorem fetchReadsTheByteAtPcOrFaults : Obligations.FetchReadsTheByteAtPcOrFaults :=
  ⟨fun _ h => exec_memFetch_eq_next.mpr ⟨h, rfl⟩, fun _ h => exec_memFetch_of_le h⟩

/-- A byte below other bits is the digit to base 256 after theirs. -/
theorem toNat_append_byte {n : Nat} (x : BitVec n) (y : Byte) : (x ++ y).toNat = y.toNat + 256 * x.toNat := by
  rw [BitVec.toNat_append, ← Nat.shiftLeft_add_eq_or_of_lt y.isLt, Nat.shiftLeft_eq]
  omega

/-- The word at `a` is the little-endian sum of its four bytes (R68). -/
theorem Memory.wordAt_eq_ofNat (m : Memory) (a : Nat) : m.wordAt a =
    BitVec.ofNat 32 ((m.byteAt a).toNat + 256 * (m.byteAt (a + 1)).toNat + 65536 * (m.byteAt (a + 2)).toNat +
      16777216 * (m.byteAt (a + 3)).toNat) := by
  have hsum : (m.wordAt a).toNat = (m.byteAt a).toNat + 256 * (m.byteAt (a + 1)).toNat +
      65536 * (m.byteAt (a + 2)).toNat + 16777216 * (m.byteAt (a + 3)).toNat := by
    rw [Memory.wordAt, toNat_append_byte, toNat_append_byte, toNat_append_byte]
    omega
  rw [← hsum, BitVec.ofNat_toNat, BitVec.setWidth_eq]

/-- Settles O20: what the read loads is the word's little-endian sum, and from the bound on it faults. -/
theorem readAssemblesTheWordAtMarOrFaults : Obligations.ReadAssemblesTheWordAtMarOrFaults := by
  refine ⟨fun s h => exec_memRead_eq_next.mpr ⟨h, ?_⟩, fun s h => exec_memRead_of_le h⟩
  rw [Memory.wordAt_eq_ofNat]
  rfl

/-- Settles O21: a completed write is `setWord` at `4*MAR`, and its bytes inside and outside the word are by the laws of
`setWord`. -/
theorem writeStoresMdrAtMarOrFaults : Obligations.WriteStoresMdrAtMarOrFaults := by
  refine ⟨fun s h => ⟨_, exec_memWrite_eq_next.mpr ⟨h, rfl⟩, rfl, fun k hk => ?_, fun a ha => ?_⟩,
    fun s h => exec_memWrite_of_le h, fun s => rfl⟩
  · rw [State.setMem_mem, Memory.byteAt_setWord_add _ _ _ hk, wordByte]
  · rw [State.setMem_mem, Memory.byteAt_setWord_outside _ _ ha]

/-- The rows between the fan-out and the jump stage are the three memory operations (R95, R214). -/
theorem mem_row_of_place {i : Instr} (hfirst : 13 ≤ i.place) (hlast : i.place ≤ 15) :
    i = .memFetch ∨ i = .memRead ∨ i = .memWrite := by
  have hmem : ∀ k ∈ bitRows, 13 ≤ k.place → k.place ≤ 15 → k = .memFetch ∨ k = .memRead ∨ k = .memWrite := by decide
  exact hmem i (mem_bitRows.mpr (by omega)) hfirst hlast

/-- Settles O35: a completed Mem row is one write, of MBR, of MDR or of the word at `4*MAR`, and that leaves the rest. -/
theorem memoryRowsFrame : Obligations.MemoryRowsFrame := by
  intro i s t hfirst hlast hexec
  obtain rfl | rfl | rfl := mem_row_of_place hfirst hlast
  · obtain ⟨-, rfl⟩ := exec_memFetch_eq_next.mp hexec
    simp [SameDestinations, SameFlags, SameControl, SameBytes]
  · obtain ⟨-, rfl⟩ := exec_memRead_eq_next.mp hexec
    simp [SameDestinations, SameFlags, SameControl, SameBytes]
  · obtain ⟨-, rfl⟩ := exec_memWrite_eq_next.mp hexec
    have houtside (a : Nat) (ha : a < wordOffset s.mar ∨ wordOffset s.mar + 4 ≤ a) :
        (s.mem.setWord (wordOffset s.mar) s.mdr).byteAt a = s.mem.byteAt a := Memory.byteAt_setWord_outside _ _ ha
    simpa [SameDestinations, SameFlags, SameControl] using houtside

/-! The completed cycle: MBR, MDR and main memory by the cycle's Mem bits, at the addresses PC and MAR hold after it. -/

section
variable {s t : State} (hstep : step s = .next t)
include hstep

theorem mbr_of_step : t.mbr = if (nextMicro s).mem.getLsbD 0 then s.mem.byteAt t.pc.toNat else s.mbr := by
  rw [eq_afterCycle_of_step hstep, afterCycle_mbr]

theorem mem_of_step :
    t.mem = if (nextMicro s).mem.getLsbD 2 then s.mem.setWord (wordOffset t.mar) t.mdr else s.mem := by
  rw [eq_afterCycle_of_step hstep, afterCycle_mem]

/-- A read wins MDR, whatever the fan-out put there: it sees the memory the cycle began with (R212, R216). -/
theorem mdr_of_step_read (hread : (nextMicro s).mem.getLsbD 1 = true) :
    t.mdr = s.mem.wordAt (wordOffset t.mar) := by
  rw [eq_afterCycle_of_step hstep, afterCycle_mar, afterCycle_mdr, afterMemory_mdr, if_pos hread, beforeMemory_mem]

/-- After a write the word at `4*MAR` is MDR as the cycle leaves it (R213). -/
theorem wordAt_of_step_write (hwrite : (nextMicro s).mem.getLsbD 2 = true) :
    t.mem.wordAt (wordOffset t.mar) = t.mdr := by
  rw [mem_of_step hstep, if_pos hwrite, Memory.wordAt_setWord]

end

/-- Without a Mem bit a cycle makes no access, so every one of them is in bounds (R218). -/
theorem cycleInBounds_of_no_memory {s : State} (hmem : (nextMicro s).mem = 0) : CycleInBounds s := by
  simp [CycleInBounds, hmem]

/-- Settles O24: each of the three cells by its clear bit; and the only condition left on completing is the status. -/
theorem noMemoryBitTouchesNothing : Obligations.NoMemoryBitTouchesNothing := by
  refine ⟨fun s t hstep hmem => ?_, fun s hs hmem => ?_⟩
  · have hclear (i : Nat) : (nextMicro s).mem.getLsbD i = false := hmem ▸ BitVec.getLsbD_zero
    exact ⟨by rw [mem_of_step hstep, hclear]; rfl, by rw [mbr_of_step hstep, hclear]; rfl,
      mdr_of_step hstep (hclear 1)⟩
  · exact ⟨_, step_eq_next.mpr ⟨⟨hs, cycleInBounds_of_no_memory hmem⟩, rfl⟩⟩

/-- Settles O25: what the write stores is the word the read just loaded from the same place. -/
theorem readAndWriteInOneCycleReload : Obligations.ReadAndWriteInOneCycleReload := by
  intro s t hstep hread hwrite
  refine ⟨mdr_of_step_read hstep hread, fun a => ?_⟩
  rw [mem_of_step hstep, if_pos hwrite, mdr_of_step_read hstep hread, Memory.byteAt_setWord_wordAt]

/-- Settles O26: a read wins MDR; without one MDR is the C latch, and the write stores it. -/
theorem readOverridesFanOutAndWriteStoresIt : Obligations.ReadOverridesFanOutAndWriteStoresIt := by
  refine ⟨fun s t hstep _ hread => mdr_of_step_read hstep hread, fun s t hstep hdest hwrite hread => ?_⟩
  have hmdr : t.mdr = t.c := by rw [mdr_of_step hstep hread, if_pos hdest]
  exact ⟨hmdr, (wordAt_of_step_write hstep hwrite).trans hmdr⟩

/-- Settles O27: the fetch reads the memory the cycle began with; the byte at PC after the cycle is one of those MDR was
stored in. -/
theorem fetchSeesTheByteBeforeTheWrite : Obligations.FetchSeesTheByteBeforeTheWrite := by
  intro s t hstep hfetch hwrite _
  refine ⟨by rw [mbr_of_step hstep, if_pos hfetch], fun k hk hpc => ?_⟩
  rw [hpc, mem_of_step hstep, if_pos hwrite, Memory.byteAt_setWord_add _ _ _ hk, wordByte]

end Sys2Proof.Machine
end

section
/-! The obligations about the jump stage (45_jump_nextmpc.md R231 to R237): what each Jump row ORs into MPC, and MPC
after a completed cycle as NextMPC with the enabled flags at bit 8 and the enabled MBR. -/

namespace Sys2Proof.Machine

/-! The values the stage ORs in: a flag is bit 8 alone, MBR never reaches it. -/

@[simp] theorem flagAtBit8_true : flagAtBit8 true = 0x100#9 := rfl
@[simp] theorem flagAtBit8_false : flagAtBit8 false = 0#9 := rfl

/-- Two opposite flags, both enabled, always put a 1 at bit 8 (R235). -/
theorem flagAtBit8_not_or (f : Bool) : flagAtBit8 (!f) ||| flagAtBit8 f = 0x100#9 := by
  cases f <;> rfl

theorem mbrIndex_eq_ofNat (s : State) : mbrIndex s = BitVec.ofNat 9 s.mbr.toNat := (BitVec.ofNat_toNat ..).symm

theorem mbrIndex_getLsbD_eight (s : State) : (mbrIndex s).getLsbD 8 = false := by simp [mbrIndex]

theorem setWidth_mbrIndex (s : State) : (mbrIndex s).setWidth 8 = s.mbr := by simp [mbrIndex]

/-! MPC after a completed cycle. -/

section
variable {s t : State} (hstep : step s = .next t)
include hstep

/-- N, Z and MBR are read as the cycle leaves them (R231 to R234). -/
theorem mpc_of_step {j : BitVec 3} (hj : (nextMicro s).j = j) : t.mpc = (nextMicro s).next |||
    flagAtBit8 (j.getLsbD 0 && t.n) ||| flagAtBit8 (j.getLsbD 1 && t.z) |||
      (if j.getLsbD 2 then mbrIndex t else 0) := by
  have hnext : (nextMicro s).next = (afterMemory (nextMicro s).mem (beforeMemory s)).mpc := by simp
  rw [eq_afterCycle_of_step hstep, hnext, ← hj]
  rfl

/-- JAMN alone branches where the ALU output is not 0 (R231). -/
theorem mpc_of_step_jamN (hj : (nextMicro s).j = 1) : t.mpc =
    if nextAlu s = 0 then (nextMicro s).next else (nextMicro s).next ||| 0x100 := by
  rw [mpc_of_step hstep hj]
  by_cases ha : nextAlu s = 0
  · rw [if_pos ha, (flags_of_step_zero hstep ha).2]
    simp
  · rw [if_neg ha, (flags_of_step_nonzero hstep ha).2]
    simp

/-- JAMZ alone branches where the ALU output is 0 (R232). -/
theorem mpc_of_step_jamZ (hj : (nextMicro s).j = 2) : t.mpc =
    if nextAlu s = 0 then (nextMicro s).next ||| 0x100 else (nextMicro s).next := by
  rw [mpc_of_step hstep hj]
  by_cases ha : nextAlu s = 0
  · rw [if_pos ha, (flags_of_step_zero hstep ha).1]
    simp
  · rw [if_neg ha, (flags_of_step_nonzero hstep ha).1]
    simp

/-- With JAMN and JAMZ both set the branch is always taken: N and Z are opposite (R235). -/
theorem mpc_of_step_jamN_jamZ (hn : (nextMicro s).j.getLsbD 0 = true) (hz : (nextMicro s).j.getLsbD 1 = true) :
    t.mpc = (nextMicro s).next ||| 0x100#9 ||| (if (nextMicro s).j.getLsbD 2 then mbrIndex t else 0) := by
  have hflags : t.n = !t.z := by rw [eq_afterCycle_of_step hstep, afterCycle_n]
  rw [mpc_of_step hstep rfl, hn, hz, hflags, Bool.true_and, Bool.true_and, BitVec.or_assoc (nextMicro s).next,
    flagAtBit8_not_or]

/-- JMPC alone ORs MBR into MPC (R233). -/
theorem mpc_of_step_jmpC (hj : (nextMicro s).j = 4) : t.mpc = (nextMicro s).next ||| mbrIndex t := by
  rw [mpc_of_step hstep hj]
  simp

end

/-- Settles O30: each row is one OR into MPC, and a cycle is the OR of the enabled ones over NextMPC. -/
theorem jumpStageOrsFlagsAndMbrIntoNext : Obligations.JumpStageOrsFlagsAndMbrIntoNext := by
  refine ⟨fun s => ⟨rfl, rfl, mbrIndex_eq_ofNat s ▸ rfl⟩, fun s t hstep => ⟨?_, fun hj => ?_,
    mpc_of_step_jamN hstep, mpc_of_step_jamZ hstep, fun hj => ?_, fun hj => ⟨?_, ?_⟩, fun hj => ?_⟩⟩
  · rw [← mbrIndex_eq_ofNat]
    exact mpc_of_step hstep rfl
  · rw [mpc_of_step hstep hj]
    simp
  · rw [mpc_of_step_jamN_jamZ hstep (by rw [hj]; rfl) (by rw [hj]; rfl), hj]
    exact BitVec.or_zero
  · rw [mpc_of_step_jmpC hstep hj, BitVec.getLsbD_or, mbrIndex_getLsbD_eight, Bool.or_false]
  · rw [mpc_of_step_jmpC hstep hj, BitVec.setWidth_or, setWidth_mbrIndex]
  · have hmpc : t.mpc = (nextMicro s).next ||| 0x100#9 ||| mbrIndex t := by
      rw [mpc_of_step_jamN_jamZ hstep (by rw [hj]; rfl) (by rw [hj]; rfl), hj]
      rfl
    rw [hmpc, ← mbrIndex_eq_ofNat]
    ac_rfl

/-- Settles O31: the two opposite flags OR a 1 into bit 8, and an OR never clears it. -/
theorem bothFlagBitsAlwaysSetBitEight : Obligations.BothFlagBitsAlwaysSetBitEight := by
  intro s t hstep hn hz
  rw [mpc_of_step_jamN_jamZ hstep hn hz, BitVec.getLsbD_or, BitVec.getLsbD_or]
  have hbit : (0x100#9).getLsbD 8 = true := rfl
  rw [hbit, Bool.or_true, Bool.true_or]

end Sys2Proof.Machine
end

section
/-! The obligations about the whole cycle (46_cycle.md R250 to R252): the step as the run of the latched word's rows, as
the spec's own pseudocode, and its frame. -/

namespace Sys2Proof.Machine

/-- Settles O38: the cycle by its definition, and the list of rows by one `andThen` per row. -/
theorem stepRunsTheDecodedRows : Obligations.StepRunsTheDecodedRows := by
  refine ⟨fun s hs => step_eq_cycle hs, fun s => rfl, fun i rows s t hexec => ?_, fun i rows s f hexec => ?_,
    fun w => (Micro.ofWord w).wellFormed_rows⟩
  · rw [runRows_cons, hexec, andThen_next]
  · rw [runRows_cons, andThen_eq_fault]
    exact .inl hexec

/-! The memory operations carry the wire A along: neither their outcome nor a bound reads it (log 2). -/

/-- An access guarded by its bound, and what follows it. -/
theorem andThen_guarded (p : Prop) [Decidable p] (t : State) (f : Fault) (k : State → Result) :
    andThen (if p then .next t else .fault f) k = if p then k t else .fault f := by
  split <;> rfl

section
variable (e : Bool) (s : State) (a : Word)

theorem fetchIf_setAluOut : fetchIf e (s.setAluOut a) = andThen (fetchIf e s) fun t => .next (t.setAluOut a) := by
  cases e
  · rfl
  · simp only [fetchIf, reduceIte, andThen_guarded]
    rfl

theorem readIf_setAluOut : readIf e (s.setAluOut a) = andThen (readIf e s) fun t => .next (t.setAluOut a) := by
  cases e
  · rfl
  · simp only [readIf, reduceIte, andThen_guarded]
    rfl

theorem writeIf_setAluOut : writeIf e (s.setAluOut a) = andThen (writeIf e s) fun t => .next (t.setAluOut a) := by
  cases e
  · rfl
  · simp only [writeIf, reduceIte, andThen_guarded]
    rfl

end

theorem runRows_rowsOfMem_setAluOut (mem : BitVec 3) (s : State) (a : Word) :
    runRows (rowsOfMem mem) (s.setAluOut a) =
      andThen (runRows (rowsOfMem mem) s) fun t => .next (t.setAluOut a) := by
  simp only [runRows_rowsOfMem, fetchIf_setAluOut, readIf_setAluOut, writeIf_setAluOut, andThen_assoc, andThen_next]

/-- The pseudocode's sub-step 6 is the run of the Mem rows (R250). -/
theorem pseudocodeCycle_eq (s : State) : pseudocodeCycle s =
    andThen (runRows (rowsOfMem (nextMicro s).mem) (beforeMemory s)) fun t => .next (jumpStage (nextMicro s).j t) := by
  simp only [pseudocodeCycle, runRows_rowsOfMem, andThen_assoc]

/-- Settles O39: step and pseudocode perform the memory operations on states that differ in the wire alone, which these
carry along, and the step's end sets it to the 0 the pseudocode began with. -/
theorem stepIsTheSpecsPseudocode : Obligations.StepIsTheSpecsPseudocode := by
  intro s hs
  rw [step_of_running hs, pseudocodeCycle_eq, nextMicro_setAluOut, beforeMemory_setAluOut]
  simp only [runRows_rowsOfMem_setAluOut, andThen_assoc, andThen_next]
  rfl

theorem afterCycle_mir (s : State) : (afterCycle s).mir = ControlStore.fetch s.cs s.mpc.toNat := by simp [afterCycle]

/-- The control part of a completed cycle: MIR latched, the control store and the status kept (R62, R120). -/
theorem control_of_step {s t : State} (hstep : step s = .next t) :
    t.mir = ControlStore.fetch s.cs s.mpc.toNat ∧ t.cs = s.cs ∧ t.status = s.status := by
  rw [eq_afterCycle_of_step hstep]
  exact ⟨afterCycle_mir s, afterCycle_cs s, afterCycle_status s⟩

/-- A write reaches no byte outside the four of the word at `4*MAR` (R69, R213). -/
theorem byteAt_of_step_write {s t : State} (hstep : step s = .next t) (hwrite : (nextMicro s).mem.getLsbD 2 = true)
    {a : Nat} (ha : a < wordOffset t.mar ∨ wordOffset t.mar + 4 ≤ a) : t.mem.byteAt a = s.mem.byteAt a := by
  rw [mem_of_step hstep, if_pos hwrite, Memory.byteAt_setWord_outside _ _ ha]

/-- Settles O37: each cell by its own law of the completed cycle, MBR and memory at the two values of their Mem bit. -/
theorem cycleFrame : Obligations.CycleFrame := by
  intro s t hstep
  obtain ⟨hmir, hcs, hstatus⟩ := control_of_step hstep
  refine ⟨hmir, hcs, hstatus, fun hfetch => ?_, fun hfetch => ?_, mdr_of_step_read hstep, mdr_of_step hstep,
    fun hwrite a => ?_, fun hwrite => ⟨wordAt_of_step_write hstep hwrite, fun a => byteAt_of_step_write hstep hwrite⟩⟩
  · rw [mbr_of_step hstep, if_pos hfetch]
  · rw [mbr_of_step hstep, hfetch]
    rfl
  · rw [mem_of_step hstep, hwrite]
    rfl

end Sys2Proof.Machine
end

section
/-! The obligation about the bounds fault of a cycle (60_exceptions.md R271, R273): which of the memory operations
raises it, and at which offset. -/

namespace Sys2Proof.Machine

/-! The three operations: each has one fault, out of its bound, at the byte offset not reduced (R271). -/

/-- An access guarded by its bound faults exactly out of it. -/
theorem guarded_eq_fault {p : Prop} [Decidable p] {t : State} {f g : Fault} :
    (if p then .next t else .fault g : Result) = .fault f ↔ ¬p ∧ f = g := by
  split <;> simp [*, eq_comm]

theorem fetchIf_eq_fault {e : Bool} {s : State} {f : Fault} : fetchIf e s = .fault f ↔
    e = true ∧ Config.memBytes ≤ s.pc.toNat ∧ f = .memoryBounds .fetch s.pc.toNat := by
  cases e
  · simp [fetchIf]
  · simp [fetchIf, guarded_eq_fault]

theorem readIf_eq_fault {e : Bool} {s : State} {f : Fault} : readIf e s = .fault f ↔
    e = true ∧ Config.memBytes ≤ wordOffset s.mar + 3 ∧ f = .memoryBounds .read (wordOffset s.mar) := by
  cases e
  · simp [readIf]
  · simp [readIf, guarded_eq_fault, wordOffset]

theorem writeIf_eq_fault {e : Bool} {s : State} {f : Fault} : writeIf e s = .fault f ↔
    e = true ∧ Config.memBytes ≤ wordOffset s.mar + 3 ∧ f = .memoryBounds .write (wordOffset s.mar) := by
  cases e
  · simp [writeIf]
  · simp [writeIf, guarded_eq_fault, wordOffset]

/-- The memory operations fault at the first enabled one out of bounds. Read and write share one bound, so a write
can be the first only where no read is enabled (R214). -/
theorem runRows_rowsOfMem_eq_fault {mem : BitVec 3} {s : State} {f : Fault} :
    runRows (rowsOfMem mem) s = .fault f ↔
      (mem.getLsbD 0 = true ∧ Config.memBytes ≤ s.pc.toNat ∧ f = .memoryBounds .fetch s.pc.toNat) ∨
      ((mem.getLsbD 0 = true → s.pc.toNat < Config.memBytes) ∧ mem.getLsbD 1 = true ∧
        Config.memBytes ≤ wordOffset s.mar + 3 ∧ f = .memoryBounds .read (wordOffset s.mar)) ∨
      ((mem.getLsbD 0 = true → s.pc.toNat < Config.memBytes) ∧ mem.getLsbD 1 = false ∧ mem.getLsbD 2 = true ∧
        Config.memBytes ≤ wordOffset s.mar + 3 ∧ f = .memoryBounds .write (wordOffset s.mar)) := by
  rw [runRows_rowsOfMem]
  simp only [andThen_eq_fault, fetchIf_eq_next, fetchIf_eq_fault, readIf_eq_next, readIf_eq_fault, writeIf_eq_fault]
  constructor
  · rintro (hfault | ⟨_, ⟨hfetch, rfl⟩, hfault | ⟨_, ⟨hread, rfl⟩, hwrite, hout, hf⟩⟩)
    · exact .inl hfault
    · exact .inr (.inl ⟨hfetch, hfault⟩)
    · have hclear : mem.getLsbD 1 = false := Bool.eq_false_iff.mpr fun h => Nat.not_lt.mpr hout (hread h)
      exact .inr (.inr ⟨hfetch, hclear, hwrite, hout, hf⟩)
  · rintro (hfault | ⟨hfetch, hfault⟩ | ⟨hfetch, hclear, hfault⟩)
    · exact .inl hfault
    · exact .inr ⟨_, ⟨hfetch, rfl⟩, .inl hfault⟩
    · exact .inr ⟨_, ⟨hfetch, rfl⟩, .inr ⟨_, ⟨fun h => absurd h (Bool.eq_false_iff.mp hclear), rfl⟩, hfault⟩⟩

/-- Only the memory operations of a running machine's cycle can fault, at PC and MAR as the fan-out leaves them. -/
theorem step_fault_iff_memory {s : State} (hs : s.status = .running) {f : Fault} :
    step s = .fault f ↔ runRows (rowsOfMem (nextMicro s).mem) (beforeMemory s) = .fault f := by
  rw [step_of_running hs, runRows_rowsOfMem_setAluOut, andThen_assoc, andThen_eq_fault]
  simp

/-- Settles O45: of the three ways the memory operations can fault, the kind picks one. -/
theorem stepFaultsExactlyAtTheFirstAccessOutOfBounds :
    Obligations.StepFaultsExactlyAtTheFirstAccessOutOfBounds := by
  intro s kind offset hs
  rw [step_fault_iff_memory hs, runRows_rowsOfMem_eq_fault]
  cases kind with
  | fetch => simp [Config.memBytes]
  | read => simp [Config.memBytes, wordOffset]
  | write => simp [Config.memBytes, wordOffset]

end Sys2Proof.Machine
end

section
/-! The obligation about when a step completes (70_reset_and_hazards.md R330). -/

namespace Sys2Proof.Machine

/-- Settles O44: a step answers the state after the cycle, and does so in a safe state only. -/
theorem stepCompletesExactlyInBounds : Obligations.StepCompletesExactlyInBounds := fun s =>
  ⟨fun ⟨_, hstep⟩ => (step_eq_next.mp hstep).1, fun hsafe => ⟨afterCycle s, step_eq_next.mpr ⟨hsafe, rfl⟩⟩⟩

end Sys2Proof.Machine
end

section
/-! The obligations about the control store's contents (70_reset_and_hazards.md R305): the word placed for the host, and
the records of a ROM file. -/

namespace Sys2Proof.Machine

/-- A record holds a number's low 64 bits, so its word is the number's low 36 bits. -/
theorem wordOfRecord_bytesOfNat (v : Nat) :
    wordOfRecord (bytesOfNat Config.romRecordBytes v) = BitVec.ofNat 36 v := by
  apply BitVec.eq_of_toNat_eq
  rw [wordOfRecord, littleEndian_bytesOfNat, BitVec.toNat_ofNat, BitVec.toNat_ofNat]
  exact Nat.mod_mod_of_dvd v (by decide)

/-- Placing a word for the host is one write of the control store, at MPC. -/
theorem withFetchWord_eq_setCs (s : State) (nbits w : Nat) : s.withFetchWord nbits w =
    s.setCs (s.cs.place s.mpc.toNat (BitVec.ofNat 36 (w % 2 ^ nbits))) := by
  rw [State.withFetchWord, wordOfRecord_bytesOfNat]

/-- Settles O50: the one entry written is the entry MPC selects. -/
theorem placedWordIsTheNextLatched : Obligations.PlacedWordIsTheNextLatched := by
  intro s nbits w
  rw [withFetchWord_eq_setCs]
  refine ⟨?_, fun i hi => ?_, rfl, ControlStore.wf_place _ s.mpc.isLt⟩
  · exact (ControlStore.fetch_place ..).trans (if_pos rfl)
  · exact (ControlStore.fetch_place ..).trans (if_neg hi)

theorem loadRom_of_lt {file : List Byte} (h : file.length < 4096) : loadRom file = .error .romTruncated := if_pos h

/-- A ROM file loads exactly when it holds its 512 records, and it leaves those. -/
theorem loadRom_eq_ok {file : List Byte} {cs : ControlStore} : loadRom file = .ok cs ↔
    4096 ≤ file.length ∧ cs = csOfRecords Config.csEntries 0 file := by
  rcases Nat.lt_or_ge file.length 4096 with hshort | hlong
  · simp [loadRom_of_lt hshort, hshort]
  · have hload : loadRom file = .ok (csOfRecords Config.csEntries 0 file) := if_neg (Nat.not_lt.mpr hlong)
    simp [hload, hlong, eq_comm]

theorem wf_of_loadRom {file : List Byte} {cs : ControlStore} (h : loadRom file = .ok cs) : cs.wf = true := by
  obtain ⟨-, rfl⟩ := loadRom_eq_ok.mp h
  exact csOfRecords_wf Config.csEntries 0 file

/-- Word `i` of a loaded control store is the word of record `i` of the file (R305). -/
theorem fetch_of_loadRom {file : List Byte} {cs : ControlStore} (h : loadRom file = .ok cs) {i : Nat}
    (hi : i < Config.csEntries) : cs.fetch i = wordOfRecord ((file.drop (8 * i)).take 8) := by
  obtain ⟨-, rfl⟩ := loadRom_eq_ok.mp h
  have hrecord := csOfRecords_fetch Config.csEntries 0 i file hi
  rwa [Nat.zero_add] at hrecord

/-- Settles O51: a long enough file leaves its records, and a word is its record's value modulo 2^36. -/
theorem romFileFillsTheControlStore : Obligations.RomFileFillsTheControlStore := by
  refine ⟨fun file => loadRom_of_lt, fun file hlong => ?_⟩
  have hload := loadRom_eq_ok.mpr ⟨hlong, rfl⟩
  refine ⟨_, hload, wf_of_loadRom hload, fun i hi => ?_⟩
  rw [fetch_of_loadRom hload hi, wordOfRecord_eq_mod]

end Sys2Proof.Machine
end

section
/-! The obligations about the program image (70_reset_and_hazards.md R306 to R308): when an image loads, and the two
regions it fills. -/

namespace Sys2Proof.Machine

/-- No load error applies to an image (R308). A file this long holds the four bytes of its size word. -/
def ImageLoads (file : List Byte) : Prop :=
  20 ≤ imageSize file ∧ 0x0401 + (imageSize file - 20) ≤ 100000000 ∧ 4 + imageSize file ≤ file.length

/-- An initial memory with the image's header and body over it (R306). -/
def imageOver (init : Memory) (file : List Byte) : Memory :=
  (init.setBytes 0 ((file.drop 4).take 20)).setBytes 0x0401 ((file.drop 24).take (imageSize file - 20))

theorem loadImage_of_loads (init : Memory) {file : List Byte} (h : ImageLoads file) :
    loadImage init file = .ok (imageOver init file) := by
  obtain ⟨hsize, hfits, hlong⟩ := h
  have hword : 4 ≤ file.length := by omega
  exact (if_neg (Nat.not_lt.mpr hword)).trans <| (if_neg (Nat.not_lt.mpr hsize)).trans <|
    (if_neg (Nat.not_lt.mpr hfits)).trans (if_neg (Nat.not_lt.mpr hlong))

theorem imageLoads_of_loadImage {init m : Memory} {file : List Byte} (h : loadImage init file = .ok m) :
    ImageLoads file := by
  rw [loadImage] at h
  split_ifs at h with hshort hsmall hlarge htruncated
  exact ⟨Nat.not_lt.mp hsmall, Nat.not_lt.mp hlarge, Nat.not_lt.mp htruncated⟩

/-- An image loads exactly when no load error applies, and it leaves its two regions. -/
theorem loadImage_eq_ok {init m : Memory} {file : List Byte} : loadImage init file = .ok m ↔
    ImageLoads file ∧ m = imageOver init file := by
  refine ⟨fun h => ?_, fun ⟨hloads, hm⟩ => hm ▸ loadImage_of_loads init hloads⟩
  have hloads := imageLoads_of_loadImage h
  exact ⟨hloads, Except.ok.inj (h.symm.trans (loadImage_of_loads init hloads))⟩

/-- A slice of a file lands from its address up; every other byte keeps its value (R306). -/
theorem Memory.byteAt_setBytes_slice (m : Memory) (a b d n : Nat) (f : List Byte) (h : d + n ≤ f.length) :
    (m.setBytes a ((f.drop d).take n)).byteAt b =
      if a ≤ b ∧ b < a + n then f.getD (d + (b - a)) 0 else m.byteAt b := by
  have hlen : ((f.drop d).take n).length = n := by simp; omega
  rw [Memory.byteAt_setBytes, hlen]
  split_ifs with hb
  · have hk : b - a < n := by omega
    simp [List.getD_eq_getElem?_getD, hk]
  · rfl

/-- Settles O52: the two regions do not overlap, so each byte is of one slice or of the initial memory. -/
theorem programImageFillsMainMemory : Obligations.ProgramImageFillsMainMemory := by
  rintro init f _ rfl hsize hfits hlong
  have hheader : 4 + 20 ≤ f.length := by omega
  have hbody : 24 + (imageSize f - 20) ≤ f.length := by rw [imageSize]; omega
  refine ⟨_, loadImage_eq_ok.mpr ⟨⟨hsize, hfits, hlong⟩, rfl⟩, fun k hk => ?_, fun k hk => ?_, fun a hlow hout => ?_⟩
  all_goals rw [imageOver, Memory.byteAt_setBytes_slice _ _ _ _ _ _ hbody]
  · rw [if_neg (by omega), Memory.byteAt_setBytes_slice _ _ _ _ _ _ hheader, if_pos (by omega), Nat.sub_zero]
  · rw [if_pos ⟨by omega, by simpa [imageSize] using hk⟩, Nat.add_sub_cancel_left]
  · rw [if_neg (by rw [imageSize]; omega), Memory.byteAt_setBytes_slice _ _ _ _ _ _ hheader, if_neg (by omega)]

/-- Settles O53: an image ends in an error exactly when it does not load. -/
theorem imageCornerCasesAreLoadErrors : Obligations.ImageCornerCasesAreLoadErrors := by
  intro init f
  have herror : (∃ e, loadImage init f = .error e) ↔ ¬∃ m, loadImage init f = .ok m := by
    cases loadImage init f <;> simp
  simp only [herror, loadImage_eq_ok, ImageLoads, imageSize, exists_and_left, exists_eq, and_true]
  omega

/-- A loaded image is inside main memory, so it keeps the canonical form (R63). -/
theorem wf_of_loadImage {init m : Memory} {file : List Byte} (h : loadImage init file = .ok m)
    (hinit : init.wf = true) : m.wf = true := by
  obtain ⟨⟨-, hfits, -⟩, rfl⟩ := loadImage_eq_ok.mp h
  refine Memory.wf_setBytes _ ?_ (Memory.wf_setBytes _ ?_ hinit)
  · have hbody := List.length_take_le (imageSize file - 20) (file.drop 24)
    rw [Config.memBytes]
    omega
  · have hheader := List.length_take_le 20 (file.drop 4)
    rw [Config.memBytes]
    omega

end Sys2Proof.Machine
end

section
/-! The obligation about the booted machine (70_reset_and_hazards.md R300, R301): reset, then the two loads. -/

namespace Sys2Proof.Machine

/-- A boot from two files succeeds exactly when both load, and leaves reset with what they load. -/
theorem boot_eq_ok {init : Memory} {rom image : List Byte} {s : State} :
    State.boot init (some rom) (some image) = .ok s ↔
      ∃ cs, loadRom rom = .ok cs ∧ ∃ mem, loadImage init image = .ok mem ∧ s = (State.reset.setCs cs).setMem mem := by
  rw [State.boot]
  cases loadRom rom with
  | error e => simp
  | ok cs => cases loadImage init image <;> simp [eq_comm]

/-- Settles O54: a boot that succeeds has loaded both files, each into canonical form. -/
theorem bootedMachineIsResetPlusMemories : Obligations.BootedMachineIsResetPlusMemories := by
  refine ⟨fun init rom image s hinit hboot => ?_, fun _ _ => rfl, fun _ _ => rfl⟩
  obtain ⟨cs, hcs, mem, hmem, rfl⟩ := boot_eq_ok.mp hboot
  exact ⟨rfl, hcs, hmem, wf_of_loadImage hmem hinit, wf_of_loadRom hcs, rfl, rfl⟩

end Sys2Proof.Machine
end
